-- ==== Sys2Proof/Word.lean ====
section
/-!
DEFINITION. The word types of the machine: an instruction byte, a 32-bit general register and the 64-bit value
of a model specific register (rules R8, R10, R21), with their halves (rule R102 a).
-/

namespace Sys2Proof

/-- One byte of an instruction or of memory. -/
abbrev Byte := BitVec 8

/-- One general register, address or 4-byte portion of a cache line (rules R8, R21). -/
abbrev Word := BitVec 32

/-- The value of one model specific register, `MSR_WIDTH` = 64 bits (rule R8). -/
abbrev Quad := BitVec 64

/-- Bits 63:32 of a value, the half `EDX` carries (rule R102 a). -/
def highHalf (v : Quad) : Word := v.extractLsb' 32 32

/-- Bits 31:0 of a value, the half `EAX` carries (rule R102 a). -/
def lowHalf (v : Quad) : Word := v.extractLsb' 0 32

/-- `hi ++ lo` of rule R10: the 64-bit value of two halves. -/
def joinHalves (hi lo : Word) : Quad := hi ++ lo

/-- A 32-bit register seen as a 64-bit value with zero high half. -/
def zeroHigh (w : Word) : Quad := w.setWidth 64

/-- One bit as a Boolean of a one-bit value. -/
def boolNat (b : Bool) : Nat := if b then 1 else 0

@[simp] theorem boolNat_true : boolNat true = 1 := rfl
@[simp] theorem boolNat_false : boolNat false = 0 := rfl

end Sys2Proof
end

