-- ==== Sys2Proof/Config.lean ====
section
/-!
DEFINITION. The configuration: the parameters of rules R8 and R9 (`00_scope.md`) and the free values.
The parameters that a run fixes and that must be evaluated are plain data, the structure `Config`, which State
carries and no step changes (log 1). What no rule constrains is an opaque constant: nothing can be proved of
its value, so a theorem holds for every value (log 6).
-/

namespace Sys2Proof

/-- `VARIANT` (rule R2): the embedded Pentium processor (`p`) and the one with MMX technology (`pmmx`). -/
inductive Variant where
  | p
  | pmmx
  deriving DecidableEq, Repr

/-- `RESERVED_MSR_POLICY` (rules R9, R163): what an access to a reserved MSR index does. -/
inductive ReservedMsrPolicy where
  /-- the step has no meaning -/
  | refuse
  /-- `raise #GP(0)` -/
  | gpFault
  deriving DecidableEq, Repr

/-- `LAYOUT_TR4` (rules R9, R33). A field is the list of its bit positions, least significant bit first. -/
structure LayoutTr4 where
  tag : List Nat
  lru : List Nat
  valid : List Nat
  deriving DecidableEq, Repr

/-- `LAYOUT_TR5` (rules R9, R36). -/
structure LayoutTr5 where
  cntl : List Nat
  buffer : List Nat
  set : List Nat
  entry : List Nat
  cd : List Nat
  wb : List Nat
  deriving DecidableEq, Repr

/-- `LAYOUT_TR6` (rules R9, R38). The linear address is bits 31:12 by the source. -/
structure LayoutTr6 where
  v : List Nat
  d : List Nat
  u : List Nat
  w : List Nat
  ps : List Nat
  cd : List Nat
  op : List Nat
  deriving DecidableEq, Repr

/-- `LAYOUT_TR7` (rules R9, R40). -/
structure LayoutTr7 where
  pa : List Nat
  pcd : List Nat
  pwt : List Nat
  lru : List Nat
  h : List Nat
  entry : List Nat
  deriving DecidableEq, Repr

/-- `LAYOUT_CESR` (rules R9, R47). -/
structure LayoutCesr where
  es0 : List Nat
  cc0 : List Nat
  pc0 : List Nat
  es1 : List Nat
  cc1 : List Nat
  pc1 : List Nat
  deriving DecidableEq, Repr

/-- The parameters a run fixes (rules R8, R9). -/
structure Config where
  variant : Variant
  /-- `MODEL_P`, the CPUID model number of variant `P` (rules R4, R9) -/
  modelP : BitVec 4
  /-- `MODEL_PMMX` (rules R4, R9) -/
  modelPmmx : BitVec 4
  reservedPolicy : ReservedMsrPolicy
  /-- `CACHE_TAG_BITS`, the width of the tag of a cache line (rules R9, R33; log 41) -/
  cacheTagBits : Nat
  tr4 : LayoutTr4
  tr5 : LayoutTr5
  tr6 : LayoutTr6
  tr7 : LayoutTr7
  cesr : LayoutCesr
  /-- `PM_PIN_LAG` (rules R9, R337) -/
  pmPinLag : Nat
  deriving DecidableEq, Repr

/-- The consecutive bit positions `hi:lo`, least significant first. -/
def bitRange (hi lo : Nat) : List Nat := (List.range (hi + 1 - lo)).map (lo + ·)

/-- `CACHE_WAYS` (rule R8). -/
def Variant.cacheWays : Variant → Nat
  | .p => 2
  | .pmmx => 4

/-- `CACHE_LRU_BITS` (rule R8). -/
def Variant.cacheLruBits : Variant → Nat
  | .p => 1
  | .pmmx => 3

/-- `TR7_ENTRY_BITS` (rule R8). -/
def Variant.tr7EntryBits : Variant → Nat
  | .p => 2
  | .pmmx => 6

/-- `TLB_LRU_BITS` in TR7 (rule R8; reserved on `PMMX`). -/
def Variant.tlbLruBits : Variant → Nat
  | .p => 3
  | .pmmx => 0

/-- The number of entry bits of TR5 (rule R36). -/
def Variant.tr5EntryBits : Variant → Nat
  | .p => 1
  | .pmmx => 2

/-- `BTB_SETS` (rule R8). -/
def Variant.btbSets : Variant → Nat
  | .p => 64
  | .pmmx => 16

/-- The width of a BTB tag, `BTB_TAG_BITS` (rule R8). -/
def Variant.btbTagBits : Variant → Nat
  | .p => 26
  | .pmmx => 24

/-- The suggested default layouts of rules R33, R36, R38, R40 and R47 (PRESUMED, log 2; the six positions of the
entry pointer of TR7 on `PMMX` are a DESIGN CHOICE: the six bits of TR7[11:0] no other field takes). -/
def Config.suggested (v : Variant) : Config where
  variant := v
  modelP := 2
  modelPmmx := 4
  reservedPolicy := .refuse
  cacheTagBits := 20
  tr4 :=
    { tag := bitRange 27 8
      lru := match v with | .p => [2] | .pmmx => [2, 3, 4]
      valid := [0, 1] }
  tr5 :=
    { cntl := [0, 1]
      buffer := bitRange 4 2
      set := bitRange 11 5
      entry := match v with | .p => [12] | .pmmx => [12, 19]
      cd := [13]
      wb := [14] }
  tr6 := { v := [11], d := [10], u := [9], w := [8], ps := [7], cd := [1], op := [0] }
  tr7 :=
    { pa := bitRange 31 12
      pcd := [11]
      pwt := [10]
      lru := match v with | .p => [7, 8, 9] | .pmmx => []
      h := [4]
      entry := match v with | .p => [2, 3] | .pmmx => [0, 1, 2, 3, 5, 6] }
  cesr :=
    { es0 := bitRange 5 0, cc0 := bitRange 8 6, pc0 := [9]
      es1 := bitRange 21 16, cc1 := bitRange 24 22, pc1 := [25] }
  pmPinLag := 5

/-- The configuration of `State.reset`: variant `PMMX` with the suggested layouts (DESIGN CHOICE, log 1). -/
def Config.atReset : Config := Config.suggested .pmmx

/-- The CPUID model number of the variant (rule R160). -/
def Config.model (c : Config) : BitVec 4 :=
  match c.variant with
  | .p => c.modelP
  | .pmmx => c.modelPmmx

/-- `draw(T)` of rule R12: the `n`-th free value of a run, 64 bits; a narrower draw takes its low bits (log 6). -/
opaque Config.draw : Nat → Quad

/-- How many clocks, after the first, pass in a step before the effect of the instruction (rule R325, log 7). -/
opaque Config.clocksBefore : Nat → Nat

/-- How many quiet clocks pass in a step after the effect of the instruction (rule R325, log 7). -/
opaque Config.clocksAfter : Nat → Nat

/-- Whether the instruction is counted as executed at a clock before its effect (rule R330, log 7). -/
opaque Config.retiresBefore : Nat → Bool

/-- Whether a microcode read happens in this step (`draw(bool)` of rule R286, log 27). -/
opaque Config.microcodeRead : Nat → Bool

/-- `EVENT_SOURCE(VARIANT, code, counter, clock)` before its bound is applied (rules R9, R335, R360; log 8). -/
opaque Config.eventSource : Variant → Nat → Nat → Nat → Nat

/-- How often breakpoint register `i`, which holds an address, was matched in a clock on a variant (rules R397 to R400;
log 8). -/
opaque Config.breakpointSource : Variant → Fin 4 → Word → Nat → Nat

/-- The value of counter `i` after a clock in which a code that names no event is selected (rule R455; log 9). -/
opaque Config.reservedCount : Nat → Nat → BitVec 40

/-- The signals `INC` and `OVF` of counter `i` in such a clock (rules R68, R455; log 9). -/
opaque Config.reservedSignals : Nat → Nat → Bool × Bool

/-- The four-way TLBs of variant `P` (rule R234). -/
inductive TlbName where
  | code
  | data4K
  | data4M
  deriving DecidableEq, Repr

/-- `TLB_INDEX(tlb, la)` (rules R9, R234): the set of a four-way TLB that a linear page selects, before its
reduction to the number of sets (log 23). -/
opaque Config.tlbIndex : TlbName → BitVec 20 → Nat

/-- The number of the 32-byte line of memory that a tag and a set stand for, where `CACHE_TAG_BITS` (the first
argument) is not 20 (rule R196; log 20). -/
opaque Config.lineNumber : Nat → BitVec 23 → BitVec 7 → BitVec 27

/-- The tag and the set of a line number, where `CACHE_TAG_BITS` is not 20 (rule R196; log 20). -/
opaque Config.lineTagAndSet : Nat → BitVec 27 → BitVec 23 × BitVec 7

/-- The physical page of a linear page while paging is on; the second argument is the counter of free values (rules
R7, R105; log 50). -/
opaque Config.translate : BitVec 20 → Nat → BitVec 20

/-- `LAYOUT_MCA` (rules R9, R28): what `RDMSR` shows of the Machine Check Address register (log 28). -/
opaque Config.layoutMca : Quad → Nat → Quad

/-- `LAYOUT_MCT` (rules R9, R29): what `RDMSR` shows of the Machine Check Type register (log 28). -/
opaque Config.layoutMct : Quad → Nat → Quad

/-- Where execution goes on when the instruction pointer passes 2^32 - 1 (rule R21, D7: not addressed; log 19). -/
opaque Config.eipPastEnd : Word → Nat → Word

end Sys2Proof
end

