-- ==== Sys2Proof/Syntax.lean ====
section
/-!
DEFINITION. The instruction syntax: one constructor for every row of `spec/opcode_table.json` (rule R140).

The hardware is programmed at three levels (`30_encoding.md`): instruction bytes, the value of `ECX`, the value
written to a command register. A constructor of level 2 is RDMSR, WRMSR or RDPMC with the register selected; one
of level 3 is WRMSR to TR5, TR6 or TR11 of a value whose control field selects the command, its other fields being
the operands (log 46).
-/

namespace Sys2Proof

/-- The registers the helper instructions name (rule R21: EAX = 0, ECX = 1, EDX = 2). -/
inductive Reg where
  | eax
  | ecx
  | edx
  deriving DecidableEq, Repr

/-- The model specific registers of Table 26-1 (rule R22). -/
inductive Msr where
  | mca | mct | tr1 | tr2 | tr3 | tr4 | tr5 | tr6 | tr7 | tr9 | tr10 | tr11 | tr12 | tsc | cesr | ctr0 | ctr1
  deriving DecidableEq, Repr

/-- The fields of TR4 (rule R33). On `P` only bit 0 of `lru` exists. A tag has `CACHE_TAG_BITS` bits, at most the 23 that
TR4[27:0] leaves it; the bits above are zero. -/
structure Tr4 where
  tag : BitVec 23
  lru : BitVec 3
  valid : BitVec 2
  deriving DecidableEq, Repr

/-- The fields of TR5 (rule R36). On `P` only bit 0 of `entry` exists. -/
structure Tr5 where
  cntl : BitVec 2
  buffer : BitVec 3
  set : BitVec 7
  entry : BitVec 2
  cd : Bool
  wb : Bool
  deriving DecidableEq, Repr

/-- The fields of TR6 (rule R38). `la` is bits 31:12 of the linear address. -/
structure Tr6 where
  la : BitVec 20
  v : Bool
  d : Bool
  u : Bool
  w : Bool
  ps : Bool
  cd : Bool
  op : Bool
  deriving DecidableEq, Repr

/-- The fields of TR7 (rule R40). On `P` `entry` has two bits; on `PMMX` `lru` does not exist. -/
structure Tr7 where
  pa : BitVec 20
  pcd : Bool
  pwt : Bool
  lru : BitVec 3
  h : Bool
  entry : BitVec 6
  deriving DecidableEq, Repr

/-- The fields of TR11 (rules R43, R44). On `P` `control` has two bits and `btype` and `bank` do not exist; on
`PMMX` `set` has four bits. -/
structure Tr11 where
  control : BitVec 3
  set : BitVec 6
  bank : BitVec 2
  way : BitVec 2
  btype : BitVec 2
  deriving DecidableEq, Repr

/-- One constructor for every row of the opcode table, in its order. -/
inductive Instr where
  /-- WRMSR (level 1; rule R164) -/
  | wrmsr
  /-- RDTSC (level 1; rule R323) -/
  | rdtsc
  /-- RDMSR (level 1; rule R161) -/
  | rdmsr
  /-- RDPMC (level 1; rule R340) -/
  | rdpmc
  /-- RDPMC (on P) (level 1; rule R341) -/
  | rdpmcOnP
  /-- CPUID (level 1; rule R160) -/
  | cpuid
  /-- MOV r32, imm32 (level 1, helper; rule R170) -/
  | movImm (r : Reg) (imm : Word)
  /-- OR EAX, imm32 (level 1, helper; rule R171) -/
  | orEaxImm (imm : Word)
  /-- AND EAX, imm32 (level 1, helper; rule R172) -/
  | andEaxImm (imm : Word)
  /-- XOR r32, r32 (same register) (level 1, helper; rule R173) -/
  | xorSame (r : Reg)
  /-- HLT (level 1, helper; rule R174) -/
  | hlt
  /-- RDMSR MCA (level 2; rule R28) -/
  | rdmsrMca
  /-- WRMSR MCA (level 2; rule R28) -/
  | wrmsrMca
  /-- RDMSR MCT (level 2; rule R29) -/
  | rdmsrMct
  /-- WRMSR MCT (level 2; rule R29) -/
  | wrmsrMct
  /-- RDMSR TR1 (level 2; rule R288) -/
  | rdmsrTr1
  /-- WRMSR TR1 (level 2; rule R282) -/
  | wrmsrTr1
  /-- RDMSR TR2 (level 2; rule R199) -/
  | rdmsrTr2
  /-- WRMSR TR2 (level 2; rule R186) -/
  | wrmsrTr2
  /-- RDMSR TR3 (level 2; rule R199) -/
  | rdmsrTr3
  /-- WRMSR TR3 (level 2; rule R185) -/
  | wrmsrTr3
  /-- RDMSR TR4 (level 2; rule R199) -/
  | rdmsrTr4
  /-- WRMSR TR4 (level 2; rule R187) -/
  | wrmsrTr4
  /-- RDMSR TR5 (level 2; rule R36) -/
  | rdmsrTr5
  /-- WRMSR TR5 (level 2; rule R188) -/
  | wrmsrTr5
  /-- RDMSR TR6 (level 2; rule R229) -/
  | rdmsrTr6
  /-- WRMSR TR6 (level 2; rule R228) -/
  | wrmsrTr6
  /-- RDMSR TR7 (level 2; rule R229) -/
  | rdmsrTr7
  /-- WRMSR TR7 (level 2; rule R223) -/
  | wrmsrTr7
  /-- RDMSR TR9 (level 2; rule R259) -/
  | rdmsrTr9
  /-- WRMSR TR9 (level 2; rule R261) -/
  | wrmsrTr9
  /-- RDMSR TR10 (level 2; rule R259) -/
  | rdmsrTr10
  /-- WRMSR TR10 (level 2; rule R262) -/
  | wrmsrTr10
  /-- RDMSR TR11 (level 2; rule R259) -/
  | rdmsrTr11
  /-- WRMSR TR11 (level 2; rule R263) -/
  | wrmsrTr11
  /-- RDMSR TR12 (level 2; rule R310) -/
  | rdmsrTr12
  /-- WRMSR TR12 (level 2; rule R301) -/
  | wrmsrTr12
  /-- RDMSR TSC (level 2; rule R46) -/
  | rdmsrTsc
  /-- WRMSR TSC (level 2; rule R326) -/
  | wrmsrTsc
  /-- RDMSR CESR (level 2; rule R331) -/
  | rdmsrCesr
  /-- WRMSR CESR (level 2; rule R330) -/
  | wrmsrCesr
  /-- RDMSR CTR0 (level 2; rule R332) -/
  | rdmsrCtr0
  /-- WRMSR CTR0 (level 2; rule R332) -/
  | wrmsrCtr0
  /-- RDMSR CTR1 (level 2; rule R332) -/
  | rdmsrCtr1
  /-- WRMSR CTR1 (level 2; rule R332) -/
  | wrmsrCtr1
  /-- RDMSR reserved index 03h (level 2; rule R163) -/
  | rdmsrReserved03
  /-- WRMSR reserved index 03h (level 2; rule R165) -/
  | wrmsrReserved03
  /-- RDMSR reserved index 04h (level 2; rule R163) -/
  | rdmsrReserved04
  /-- WRMSR reserved index 04h (level 2; rule R165) -/
  | wrmsrReserved04
  /-- RDMSR reserved index 0Ah (level 2; rule R163) -/
  | rdmsrReserved0A
  /-- WRMSR reserved index 0Ah (level 2; rule R165) -/
  | wrmsrReserved0A
  /-- RDMSR reserved index 0Fh (level 2; rule R163) -/
  | rdmsrReserved0F
  /-- WRMSR reserved index 0Fh (level 2; rule R165) -/
  | wrmsrReserved0F
  /-- RDMSR reserved index 14h and above (level 2; rule R163) -/
  | rdmsrReservedAbove (ecx : Word)
  /-- WRMSR reserved index 14h and above (level 2; rule R165) -/
  | wrmsrReservedAbove (ecx : Word)
  /-- RDPMC CTR0 (level 2; rule R340) -/
  | rdpmcCtr0
  /-- RDPMC CTR1 (level 2; rule R340) -/
  | rdpmcCtr1
  /-- RDPMC other ECX (level 2; rule R342) -/
  | rdpmcOther (ecx : Word)
  /-- TR5 normal operation (level 3; rule R184) -/
  | tr5Normal (buffer : BitVec 3) (set : BitVec 7) (entry : BitVec 2) (cd wb : Bool)
  /-- TR5 testability write, code cache (level 3; rule R189) -/
  | tr5WriteCode (buffer : BitVec 3) (set : BitVec 7) (entry : BitVec 2) (wb : Bool)
  /-- TR5 testability write, data cache (level 3; rule R190) -/
  | tr5WriteData (buffer : BitVec 3) (set : BitVec 7) (entry : BitVec 2) (wb : Bool)
  /-- TR5 testability read, code cache (level 3; rule R191) -/
  | tr5ReadCode (buffer : BitVec 3) (set : BitVec 7) (entry : BitVec 2) (wb : Bool)
  /-- TR5 testability read, data cache (level 3; rule R197) -/
  | tr5ReadData (buffer : BitVec 3) (set : BitVec 7) (entry : BitVec 2) (wb : Bool)
  /-- TR5 flush, code cache (whole) (level 3; rule R193) -/
  | tr5FlushCode (buffer : BitVec 3) (set : BitVec 7) (entry : BitVec 2) (wb : Bool)
  /-- TR5 flush, data cache (whole, no writeback) (level 3; rule R194) -/
  | tr5FlushDataAll (buffer : BitVec 3) (set : BitVec 7) (entry : BitVec 2)
  /-- TR5 flush, data cache (one line, writeback if modified) (level 3; rule R195) -/
  | tr5FlushDataLine (buffer : BitVec 3) (set : BitVec 7) (entry : BitVec 2)
  /-- TR6 TLB write, code TLB (level 3; rule R224) -/
  | tr6WriteCode (la : BitVec 20) (v d u w ps : Bool)
  /-- TR6 TLB write, data TLB (level 3; rule R225) -/
  | tr6WriteData (la : BitVec 20) (v d u w ps : Bool)
  /-- TR6 TLB read, code TLB (level 3; rule R226) -/
  | tr6ReadCode (la : BitVec 20) (v d u w ps : Bool)
  /-- TR6 TLB read, data TLB (level 3; rule R227) -/
  | tr6ReadData (la : BitVec 20) (v d u w ps : Bool)
  /-- TR11 normal operation (level 3; rule R253) -/
  | tr11Normal (btype : BitVec 2) (set : BitVec 6) (bank way : BitVec 2)
  /-- TR11 testability write data (level 3; rule R254) -/
  | tr11Write (btype : BitVec 2) (set : BitVec 6) (bank way : BitVec 2)
  /-- TR11 testability read data (level 3; rule R255) -/
  | tr11ReadData (btype : BitVec 2) (set : BitVec 6) (bank way : BitVec 2)
  /-- TR11 testability BTB flush (level 3; rule R257) -/
  | tr11Flush (btype : BitVec 2) (set : BitVec 6) (bank way : BitVec 2)
  /-- TR11 testability read TAG (level 3; rule R256) -/
  | tr11ReadTag (btype : BitVec 2) (set : BitVec 6) (bank way : BitVec 2)
  /-- TR11 reserved control 100 (level 3; rule R258) -/
  | tr11Reserved4 (btype : BitVec 2) (set : BitVec 6) (bank way : BitVec 2)
  /-- TR11 reserved control 110 (level 3; rule R258) -/
  | tr11Reserved6 (btype : BitVec 2) (set : BitVec 6) (bank way : BitVec 2)
  /-- TR11 reserved control 111 (level 3; rule R258) -/
  | tr11Reserved7 (btype : BitVec 2) (set : BitVec 6) (bank way : BitVec 2)
  deriving DecidableEq, Repr

end Sys2Proof
end

