-- ==== Sys2Proof/WellFormed.lean ====
section
/-!
DEFINITION. Well-formedness: which layouts respect what the source fixes of the bit positions (rules R33, R36,
R38, R40, R47), and which instructions exist on which variant with which operands (rules R8, R22, R43, R138).
-/

namespace Sys2Proof

/-- The positions of some fields lie among `allowed` and no bit belongs to two fields. -/
def fieldsFit (allowed : List Nat) (fields : List (List Nat)) : Bool :=
  fields.flatten.all (allowed.contains ·) && decide fields.flatten.Nodup

/-- `LAYOUT_TR4` respects rule R33: a tag of `tagBits`, bits 31:28 belong to no field, and on `PMMX` LRU[2:1] take bits
4:3. -/
def LayoutTr4.check (v : Variant) (tagBits : Nat) (l : LayoutTr4) : Bool :=
  l.tag.length == tagBits && l.lru.length == v.cacheLruBits && l.valid.length == 2 &&
  fieldsFit (bitRange 27 0) [l.tag, l.lru, l.valid] &&
  (match v with
   | .p => !(l.tag ++ l.lru ++ l.valid).contains 3 && !(l.tag ++ l.lru ++ l.valid).contains 4
   | .pmmx => decide ((l.lru.drop 1).Perm [3, 4]))

/-- `LAYOUT_TR5` respects rule R36: Entry[1] of `PMMX` is bit 19, which `P` reserves. -/
def LayoutTr5.check (v : Variant) (l : LayoutTr5) : Bool :=
  l.cntl.length == 2 && l.buffer.length == 3 && l.set.length == 7 && l.entry.length == v.tr5EntryBits &&
  l.cd.length == 1 && l.wb.length == 1 &&
  fieldsFit (bitRange 31 0) [l.cntl, l.buffer, l.set, l.entry, l.cd, l.wb] &&
  (match v with
   | .p => !(l.cntl ++ l.buffer ++ l.set ++ l.entry ++ l.cd ++ l.wb).contains 19
   | .pmmx => l.entry.drop 1 == [19])

/-- `LAYOUT_TR6` respects rule R38: every field but the linear address lies in bits 11:0. -/
def LayoutTr6.check (l : LayoutTr6) : Bool :=
  [l.v, l.d, l.u, l.w, l.ps, l.cd, l.op].all (·.length == 1) &&
  fieldsFit (bitRange 11 0) [l.v, l.d, l.u, l.w, l.ps, l.cd, l.op]

/-- `LAYOUT_TR7` respects rule R40: bits 9:7 are the LRU bits on `P` and reserved on `PMMX`. -/
def LayoutTr7.check (v : Variant) (l : LayoutTr7) : Bool :=
  l.pa.length == 20 && l.lru.length == v.tlbLruBits && l.entry.length == v.tr7EntryBits &&
  [l.pcd, l.pwt, l.h].all (·.length == 1) &&
  fieldsFit (bitRange 31 0) [l.pa, l.pcd, l.pwt, l.lru, l.h, l.entry] &&
  (match v with
   | .p => decide (l.lru.Perm [7, 8, 9])
   | .pmmx => (l.pa ++ l.pcd ++ l.pwt ++ l.h ++ l.entry).all fun b => !(bitRange 9 7).contains b)

/-- `LAYOUT_CESR` gives the fields of rule R47 their widths, in bits 31:0. -/
def LayoutCesr.check (l : LayoutCesr) : Bool :=
  l.es0.length == 6 && l.cc0.length == 3 && l.pc0.length == 1 &&
  l.es1.length == 6 && l.cc1.length == 3 && l.pc1.length == 1 &&
  fieldsFit (bitRange 31 0) [l.es0, l.cc0, l.pc0, l.es1, l.cc1, l.pc1]

/-- The layouts of a configuration respect what the source fixes. -/
def Config.check (c : Config) : Bool :=
  c.tr4.check c.variant c.cacheTagBits && c.tr5.check c.variant && c.tr6.check && c.tr7.check c.variant && c.cesr.check

/-- The TR5 entry field fits the variant: `TR5.19` (Entry[1]) is reserved on `P` (rule R36). -/
def entryFits (v : Variant) (entry : BitVec 2) : Bool :=
  match v with
  | .p => !entry.getLsbD 1
  | .pmmx => true

/-- The TR11 operands fit the variant (rule R43). -/
def tr11Fits (v : Variant) (btype : BitVec 2) (set : BitVec 6) (bank : BitVec 2) : Bool :=
  match v with
  | .p => btype == 0 && bank == 0
  | .pmmx => decide (set.toNat < v.btbSets)

/-- The instruction exists on the configured variant and its operands fit their fields. -/
def Instr.check (c : Config) : Instr → Bool
  | .rdpmc | .rdpmcCtr0 | .rdpmcCtr1 => decide (c.variant = .pmmx)
  | .rdpmcOnP => decide (c.variant = .p)
  | .rdpmcOther ecx => decide (c.variant = .pmmx) && decide (2 ≤ ecx.toNat)
  | .rdmsrTr2 | .wrmsrTr2 => decide (c.variant = .p)
  | .rdmsrReserved04 | .wrmsrReserved04 => decide (c.variant = .pmmx)
  | .rdmsrReservedAbove ecx | .wrmsrReservedAbove ecx => decide (0x14 ≤ ecx.toNat)
  | .tr5Normal _ _ entry _ _ => entryFits c.variant entry
  | .tr5WriteCode _ _ entry _ | .tr5WriteData _ _ entry _ | .tr5ReadCode _ _ entry _ | .tr5ReadData _ _ entry _
  | .tr5FlushCode _ _ entry _ => entryFits c.variant entry
  | .tr5FlushDataAll _ _ entry | .tr5FlushDataLine _ _ entry => entryFits c.variant entry
  | .tr11Normal btype set bank _ | .tr11Write btype set bank _ | .tr11ReadData btype set bank _
  | .tr11Flush btype set bank _ => tr11Fits c.variant btype set bank
  | .tr11ReadTag btype set bank _ | .tr11Reserved4 btype set bank _ | .tr11Reserved6 btype set bank _
  | .tr11Reserved7 btype set bank _ => decide (c.variant = .pmmx) && tr11Fits c.variant btype set bank
  | .wrmsr | .rdtsc | .rdmsr | .cpuid | .movImm _ _ | .orEaxImm _ | .andEaxImm _ | .xorSame _ | .hlt => true
  | .rdmsrMca | .wrmsrMca | .rdmsrMct | .wrmsrMct | .rdmsrTr1 | .wrmsrTr1 | .rdmsrTr3 | .wrmsrTr3 => true
  | .rdmsrTr4 | .wrmsrTr4 | .rdmsrTr5 | .wrmsrTr5 | .rdmsrTr6 | .wrmsrTr6 | .rdmsrTr7 | .wrmsrTr7 => true
  | .rdmsrTr9 | .wrmsrTr9 | .rdmsrTr10 | .wrmsrTr10 | .rdmsrTr11 | .wrmsrTr11 | .rdmsrTr12 | .wrmsrTr12 => true
  | .rdmsrTsc | .wrmsrTsc | .rdmsrCesr | .wrmsrCesr | .rdmsrCtr0 | .wrmsrCtr0 | .rdmsrCtr1 | .wrmsrCtr1 => true
  | .rdmsrReserved03 | .wrmsrReserved03 | .rdmsrReserved0A | .wrmsrReserved0A => true
  | .rdmsrReserved0F | .wrmsrReserved0F => true
  | .tr6WriteCode .. | .tr6WriteData .. | .tr6ReadCode .. | .tr6ReadData .. => true

end Sys2Proof
end

