-- ==== Sys2Proof/Decode.lean ====
section
/-!
DEFINITION. The decoder, total on any bytes, and after it the encoder (rules R130 to R140), with the bit fields
of the registers (rules R10, R11, R30 to R47).

An instruction's words are its bytes and, for the rows of level 2 and 3, the value of `ECX` and the value of
`EDX:EAX` it is executed with. `step` decodes the bytes alone; the meaning of RDMSR, WRMSR and RDPMC goes on with
the selection functions of this file.
-/

namespace Sys2Proof

/-! ### Bit fields (rules R10, R11) -/

/-- The unsigned value of a field whose bits stand at positions `ps`, least significant first. -/
def fieldNat (ps : List Nat) (v : Quad) : Nat :=
  match ps with
  | [] => 0
  | p :: rest => boolNat (v.getLsbD p) + 2 * fieldNat rest v

/-- The field at positions `ps` as a bit string of width `w`. -/
def fieldBits (w : Nat) (ps : List Nat) (v : Quad) : BitVec w := BitVec.ofNat w (fieldNat ps v)

/-- The one-bit field at positions `ps`. -/
def fieldFlag (ps : List Nat) (v : Quad) : Bool := (fieldNat ps v).testBit 0

/-- The 64-bit value whose field at positions `ps` is `x` and whose other bits are 0. -/
def placeField (ps : List Nat) (x : Nat) : Quad :=
  match ps with
  | [] => 0
  | p :: rest => (if x.testBit 0 then BitVec.twoPow 64 p else 0) ||| placeField rest (x / 2)

/-- The mask of the bits at positions `ps`. -/
def maskOf (ps : List Nat) : Quad :=
  match ps with
  | [] => 0
  | p :: rest => BitVec.twoPow 64 p ||| maskOf rest

/-! ### The registers' fields -/

/-- Linear address bits of TR6, fixed by the source (rule R38). -/
def tr6Address : List Nat := bitRange 31 12

/-- The set field of TR11 (rule R43). -/
def tr11SetBits : Variant → List Nat
  | .p => bitRange 11 6
  | .pmmx => bitRange 11 8

/-- The bank field of TR11, `PMMX` only (rule R43). -/
def tr11BankBits : Variant → List Nat
  | .p => []
  | .pmmx => [6, 7]

/-- The branch type field of TR11, `PMMX` only (rule R43). -/
def tr11TypeBits : Variant → List Nat
  | .p => []
  | .pmmx => [24, 25]

/-- The control field of TR11: Cntl0, Cntl1 and, on `PMMX`, Cntl2 at bit 12 (rules R43, R44). -/
def tr11ControlBits : Variant → List Nat
  | .p => [0, 1]
  | .pmmx => [0, 1, 12]

/-- The bits of a register that are not reserved on the variant (rules R23, R24, R28 to R50). -/
def msrMask (c : Config) : Msr → Quad
  | .mca | .mct | .tsc => BitVec.allOnes 64
  | .tr1 => 0x3FFF
  | .tr2 => 0xF
  | .tr3 | .tr10 => 0xFFFFFFFF
  | .tr4 => maskOf (c.tr4.tag ++ c.tr4.lru ++ c.tr4.valid)
  | .tr5 => maskOf (c.tr5.cntl ++ c.tr5.buffer ++ c.tr5.set ++ c.tr5.entry ++ c.tr5.cd ++ c.tr5.wb)
  | .tr6 => maskOf (tr6Address ++ c.tr6.v ++ c.tr6.d ++ c.tr6.u ++ c.tr6.w ++ c.tr6.ps ++ c.tr6.cd ++ c.tr6.op)
  | .tr7 => maskOf (c.tr7.pa ++ c.tr7.pcd ++ c.tr7.pwt ++ c.tr7.lru ++ c.tr7.h ++ c.tr7.entry)
  | .tr9 => match c.variant with | .p => 0xFFFFFFC3 | .pmmx => 0xFFFFFFFF
  | .tr11 =>
    maskOf (tr11ControlBits c.variant ++ tr11SetBits c.variant ++ tr11BankBits c.variant ++ [2, 3] ++
      tr11TypeBits c.variant)
  | .tr12 => match c.variant with | .p => 0x30F | .pmmx => 0x18030F
  | .cesr => maskOf (c.cesr.es0 ++ c.cesr.cc0 ++ c.cesr.pc0 ++ c.cesr.es1 ++ c.cesr.cc1 ++ c.cesr.pc1)
  | .ctr0 | .ctr1 => 0xFFFFFFFFFF

/-- A value has a one in a bit that is reserved in the register (rules R24 b, R138). -/
def hasReservedOne (c : Config) (m : Msr) (v : Quad) : Bool := v &&& ~~~(msrMask c m) != 0

/-- The fields of a TR4 value (rule R33). -/
def unpackTr4 (c : Config) (v : Quad) : Tr4 where
  tag := fieldBits 23 c.tr4.tag v
  lru := fieldBits 3 c.tr4.lru v
  valid := fieldBits 2 c.tr4.valid v

/-- The TR4 value of its fields. -/
def packTr4 (c : Config) (f : Tr4) : Quad :=
  placeField c.tr4.tag f.tag.toNat ||| placeField c.tr4.lru f.lru.toNat ||| placeField c.tr4.valid f.valid.toNat

/-- The fields of a TR5 value (rule R36). -/
def unpackTr5 (c : Config) (v : Quad) : Tr5 where
  cntl := fieldBits 2 c.tr5.cntl v
  buffer := fieldBits 3 c.tr5.buffer v
  set := fieldBits 7 c.tr5.set v
  entry := fieldBits 2 c.tr5.entry v
  cd := fieldFlag c.tr5.cd v
  wb := fieldFlag c.tr5.wb v

/-- The TR5 value of its fields. -/
def packTr5 (c : Config) (f : Tr5) : Quad :=
  placeField c.tr5.cntl f.cntl.toNat ||| placeField c.tr5.buffer f.buffer.toNat |||
  placeField c.tr5.set f.set.toNat ||| placeField c.tr5.entry f.entry.toNat |||
  placeField c.tr5.cd (boolNat f.cd) ||| placeField c.tr5.wb (boolNat f.wb)

/-- The fields of a TR6 value (rule R38). -/
def unpackTr6 (c : Config) (v : Quad) : Tr6 where
  la := fieldBits 20 tr6Address v
  v := fieldFlag c.tr6.v v
  d := fieldFlag c.tr6.d v
  u := fieldFlag c.tr6.u v
  w := fieldFlag c.tr6.w v
  ps := fieldFlag c.tr6.ps v
  cd := fieldFlag c.tr6.cd v
  op := fieldFlag c.tr6.op v

/-- The TR6 value of its fields. -/
def packTr6 (c : Config) (f : Tr6) : Quad :=
  placeField tr6Address f.la.toNat ||| placeField c.tr6.v (boolNat f.v) ||| placeField c.tr6.d (boolNat f.d) |||
  placeField c.tr6.u (boolNat f.u) ||| placeField c.tr6.w (boolNat f.w) ||| placeField c.tr6.ps (boolNat f.ps) |||
  placeField c.tr6.cd (boolNat f.cd) ||| placeField c.tr6.op (boolNat f.op)

/-- The fields of a TR7 value (rule R40). -/
def unpackTr7 (c : Config) (v : Quad) : Tr7 where
  pa := fieldBits 20 c.tr7.pa v
  pcd := fieldFlag c.tr7.pcd v
  pwt := fieldFlag c.tr7.pwt v
  lru := fieldBits 3 c.tr7.lru v
  h := fieldFlag c.tr7.h v
  entry := fieldBits 6 c.tr7.entry v

/-- The TR7 value of its fields. -/
def packTr7 (c : Config) (f : Tr7) : Quad :=
  placeField c.tr7.pa f.pa.toNat ||| placeField c.tr7.pcd (boolNat f.pcd) ||| placeField c.tr7.pwt (boolNat f.pwt) |||
  placeField c.tr7.lru f.lru.toNat ||| placeField c.tr7.h (boolNat f.h) ||| placeField c.tr7.entry f.entry.toNat

/-- The fields of a TR11 value (rules R43, R44). -/
def unpackTr11 (v : Variant) (x : Quad) : Tr11 where
  control := fieldBits 3 (tr11ControlBits v) x
  set := fieldBits 6 (tr11SetBits v) x
  bank := fieldBits 2 (tr11BankBits v) x
  way := fieldBits 2 [2, 3] x
  btype := fieldBits 2 (tr11TypeBits v) x

/-- The TR11 value of its fields. -/
def packTr11 (v : Variant) (f : Tr11) : Quad :=
  placeField (tr11ControlBits v) f.control.toNat ||| placeField (tr11SetBits v) f.set.toNat |||
  placeField (tr11BankBits v) f.bank.toNat ||| placeField [2, 3] f.way.toNat |||
  placeField (tr11TypeBits v) f.btype.toNat

/-! ### The decoder -/

/-- Why the decoder gives no instruction (rules R135, R138). -/
inductive DecodeError where
  /-- the bytes end inside the instruction -/
  | truncated
  /-- an instruction prefix byte: a prefixed form is refused (rule R135, log 34) -/
  | prefixByte (b : Byte)
  /-- a first byte that begins no instruction of this spec -/
  | firstByte (b : Byte)
  /-- a byte after 0Fh that names no instruction of this spec -/
  | secondByte (b : Byte)
  /-- MOV r32, imm32 of a register this spec does not use (rule R170) -/
  | movRegister (b : Byte)
  /-- 31h with a ModRM byte that is not twice EAX, ECX or EDX (rule R173) -/
  | modRm (b : Byte)
  /-- a value written with a one in a reserved bit of the register (rules R24, R138) -/
  | reservedBits (m : Msr)
  deriving DecidableEq, Repr

/-- A decoder's answer. -/
abbrev Decoded := Except DecodeError Instr

/-- The prefix bytes of IA-32 (rule R135; G12). -/
def isPrefixByte (b : Byte) : Bool :=
  [0x66#8, 0x67#8, 0x2E#8, 0x36#8, 0x3E#8, 0x26#8, 0x64#8, 0x65#8, 0xF0#8, 0xF2#8, 0xF3#8].contains b

/-- A 32-bit immediate from four bytes, least significant first (rule R134). -/
def wordOfBytes (b0 b1 b2 b3 : Byte) : Word := b3 ++ b2 ++ b1 ++ b0

/-- The instruction of a first byte that is followed by a 32-bit immediate (rule R134). -/
def decodeImmediate (make : Word → Instr) : List Byte → Decoded
  | b0 :: b1 :: b2 :: b3 :: _ => .ok (make (wordOfBytes b0 b1 b2 b3))
  | _ => .error .truncated

/-- The second byte of a two-byte opcode (rule R132). 0Fh 33h is RDPMC on `PMMX` and an invalid opcode on `P`
(rules R138, R341). -/
def decodeSecond (v : Variant) (b : Byte) : Decoded :=
  if b = 0x30 then .ok .wrmsr
  else if b = 0x31 then .ok .rdtsc
  else if b = 0x32 then .ok .rdmsr
  else if b = 0x33 then .ok (match v with | .p => .rdpmcOnP | .pmmx => .rdpmc)
  else if b = 0xA2 then .ok .cpuid
  else .error (.secondByte b)

/-- Level 1: the instruction the bytes hold (rules R131, R132, R134, R135). -/
def decodeBytes (v : Variant) : List Byte → Decoded
  | [] => .error .truncated
  | b :: rest =>
    if b = 0x0F then
      match rest with
      | [] => .error .truncated
      | b1 :: _ => decodeSecond v b1
    else if b = 0xB8 then decodeImmediate (.movImm .eax) rest
    else if b = 0xB9 then decodeImmediate (.movImm .ecx) rest
    else if b = 0xBA then decodeImmediate (.movImm .edx) rest
    else if b &&& 0xF8 = 0xB8 then .error (.movRegister b)
    else if b = 0x0D then decodeImmediate .orEaxImm rest
    else if b = 0x25 then decodeImmediate .andEaxImm rest
    else if b = 0x31 then
      match rest with
      | [] => .error .truncated
      | m :: _ =>
        if m = 0xC0 then .ok (.xorSame .eax)
        else if m = 0xC9 then .ok (.xorSame .ecx)
        else if m = 0xD2 then .ok (.xorSame .edx)
        else .error (.modRm m)
    else if b = 0xF4 then .ok .hlt
    else if isPrefixByte b then .error (.prefixByte b)
    else .error (.firstByte b)

/-- Level 2: the register an index selects on a variant, none for a reserved index (rules R22, R136). `ECX` is
compared on all 32 bits. -/
def msrOfIndex (v : Variant) (ecx : Word) : Option Msr :=
  if ecx = 0x00 then some .mca
  else if ecx = 0x01 then some .mct
  else if ecx = 0x02 then some .tr1
  else if ecx = 0x04 then (match v with | .p => some .tr2 | .pmmx => none)
  else if ecx = 0x05 then some .tr3
  else if ecx = 0x06 then some .tr4
  else if ecx = 0x07 then some .tr5
  else if ecx = 0x08 then some .tr6
  else if ecx = 0x09 then some .tr7
  else if ecx = 0x0B then some .tr9
  else if ecx = 0x0C then some .tr10
  else if ecx = 0x0D then some .tr11
  else if ecx = 0x0E then some .tr12
  else if ecx = 0x10 then some .tsc
  else if ecx = 0x11 then some .cesr
  else if ecx = 0x12 then some .ctr0
  else if ecx = 0x13 then some .ctr1
  else none

/-- The row of RDMSR with a register selected. -/
def rdmsrRow : Msr → Instr
  | .mca => .rdmsrMca
  | .mct => .rdmsrMct
  | .tr1 => .rdmsrTr1
  | .tr2 => .rdmsrTr2
  | .tr3 => .rdmsrTr3
  | .tr4 => .rdmsrTr4
  | .tr5 => .rdmsrTr5
  | .tr6 => .rdmsrTr6
  | .tr7 => .rdmsrTr7
  | .tr9 => .rdmsrTr9
  | .tr10 => .rdmsrTr10
  | .tr11 => .rdmsrTr11
  | .tr12 => .rdmsrTr12
  | .tsc => .rdmsrTsc
  | .cesr => .rdmsrCesr
  | .ctr0 => .rdmsrCtr0
  | .ctr1 => .rdmsrCtr1

/-- The row of WRMSR with a register selected. -/
def wrmsrRow : Msr → Instr
  | .mca => .wrmsrMca
  | .mct => .wrmsrMct
  | .tr1 => .wrmsrTr1
  | .tr2 => .wrmsrTr2
  | .tr3 => .wrmsrTr3
  | .tr4 => .wrmsrTr4
  | .tr5 => .wrmsrTr5
  | .tr6 => .wrmsrTr6
  | .tr7 => .wrmsrTr7
  | .tr9 => .wrmsrTr9
  | .tr10 => .wrmsrTr10
  | .tr11 => .wrmsrTr11
  | .tr12 => .wrmsrTr12
  | .tsc => .wrmsrTsc
  | .cesr => .wrmsrCesr
  | .ctr0 => .wrmsrCtr0
  | .ctr1 => .wrmsrCtr1

/-- The row of RDMSR with the index `ecx` (rules R22, R163). -/
def selectRdmsr (v : Variant) (ecx : Word) : Instr :=
  match msrOfIndex v ecx with
  | some m => rdmsrRow m
  | none =>
    if ecx = 0x03 then .rdmsrReserved03
    else if ecx = 0x04 then .rdmsrReserved04
    else if ecx = 0x0A then .rdmsrReserved0A
    else if ecx = 0x0F then .rdmsrReserved0F
    else .rdmsrReservedAbove ecx

/-- The row of WRMSR with the index `ecx` (rules R22, R165). -/
def selectWrmsr (v : Variant) (ecx : Word) : Instr :=
  match msrOfIndex v ecx with
  | some m => wrmsrRow m
  | none =>
    if ecx = 0x03 then .wrmsrReserved03
    else if ecx = 0x04 then .wrmsrReserved04
    else if ecx = 0x0A then .wrmsrReserved0A
    else if ecx = 0x0F then .wrmsrReserved0F
    else .wrmsrReservedAbove ecx

/-- The row of RDPMC with the selector `ecx` (rules R136, R342). -/
def selectRdpmc (ecx : Word) : Instr :=
  if ecx = 0 then .rdpmcCtr0
  else if ecx = 1 then .rdpmcCtr1
  else .rdpmcOther ecx

/-- The command of a TR5 value (rules R137, R188). -/
def tr5Command (f : Tr5) : Instr :=
  if f.cntl = 0 then .tr5Normal f.buffer f.set f.entry f.cd f.wb
  else if f.cntl = 1 then
    if f.cd then .tr5WriteData f.buffer f.set f.entry f.wb else .tr5WriteCode f.buffer f.set f.entry f.wb
  else if f.cntl = 2 then
    if f.cd then .tr5ReadData f.buffer f.set f.entry f.wb else .tr5ReadCode f.buffer f.set f.entry f.wb
  else if f.cd then
    if f.wb then .tr5FlushDataLine f.buffer f.set f.entry else .tr5FlushDataAll f.buffer f.set f.entry
  else .tr5FlushCode f.buffer f.set f.entry f.wb

/-- The command of a TR6 value (rules R137, R228). -/
def tr6Command (f : Tr6) : Instr :=
  if f.op then
    if f.cd then .tr6ReadData f.la f.v f.d f.u f.w f.ps else .tr6ReadCode f.la f.v f.d f.u f.w f.ps
  else
    if f.cd then .tr6WriteData f.la f.v f.d f.u f.w f.ps else .tr6WriteCode f.la f.v f.d f.u f.w f.ps

/-- The command of a TR11 value (rules R44, R137, R263). -/
def tr11Command (f : Tr11) : Instr :=
  if f.control = 0 then .tr11Normal f.btype f.set f.bank f.way
  else if f.control = 1 then .tr11Write f.btype f.set f.bank f.way
  else if f.control = 2 then .tr11ReadData f.btype f.set f.bank f.way
  else if f.control = 3 then .tr11Flush f.btype f.set f.bank f.way
  else if f.control = 5 then .tr11ReadTag f.btype f.set f.bank f.way
  else if f.control = 4 then .tr11Reserved4 f.btype f.set f.bank f.way
  else if f.control = 6 then .tr11Reserved6 f.btype f.set f.bank f.way
  else .tr11Reserved7 f.btype f.set f.bank f.way

/-- Level 3: the command that a value written to a command register selects; another register's row stays. -/
def selectCommand (c : Config) (v : Quad) : Instr → Decoded
  | .wrmsrTr5 => if hasReservedOne c .tr5 v then .error (.reservedBits .tr5) else .ok (tr5Command (unpackTr5 c v))
  | .wrmsrTr6 => if hasReservedOne c .tr6 v then .error (.reservedBits .tr6) else .ok (tr6Command (unpackTr6 c v))
  | .wrmsrTr11 =>
    if hasReservedOne c .tr11 v then .error (.reservedBits .tr11)
    else .ok (tr11Command (unpackTr11 c.variant v))
  | i => .ok i

/-- The words of an instruction at the three levels: its bytes, the value of `ECX` and the value of `EDX:EAX` it
is executed with, each given or not. -/
structure Words where
  bytes : List Byte
  ecx : Option Word := none
  value : Option Quad := none
  deriving DecidableEq, Repr

/-- The instruction of its words: the row of the deepest level for which a word is given. -/
def decode (c : Config) (x : Words) : Decoded :=
  match decodeBytes c.variant x.bytes, x.ecx with
  | .ok .rdmsr, some ecx => .ok (selectRdmsr c.variant ecx)
  | .ok .rdpmc, some ecx => .ok (selectRdpmc ecx)
  | .ok .wrmsr, some ecx =>
    match x.value with
    | some v => selectCommand c v (selectWrmsr c.variant ecx)
    | none => .ok (selectWrmsr c.variant ecx)
  | r, _ => r

/-! ### The encoder -/

/-- The opcode bytes of the five instructions of format OP2 (rules R131, R132). -/
def opcode (second : Byte) : List Byte := [0x0F, second]

/-- The bytes of a 32-bit immediate, least significant first (rule R134). -/
def bytesOfWord (w : Word) : List Byte :=
  [w.extractLsb' 0 8, w.extractLsb' 8 8, w.extractLsb' 16 8, w.extractLsb' 24 8]

/-- The first byte of MOV r32, imm32: B8h + r (rule R134). -/
def movByte : Reg → Byte
  | .eax => 0xB8
  | .ecx => 0xB9
  | .edx => 0xBA

/-- The ModRM byte of XOR r32, r32: C0h + 9r (rule R134). -/
def xorByte : Reg → Byte
  | .eax => 0xC0
  | .ecx => 0xC9
  | .edx => 0xD2

/-- The words of RDMSR with an index. -/
def rdmsrWords (ecx : Word) : Words := { bytes := opcode 0x32, ecx := some ecx }

/-- The words of WRMSR with an index. -/
def wrmsrWords (ecx : Word) : Words := { bytes := opcode 0x30, ecx := some ecx }

/-- The words of RDPMC with a selector. -/
def rdpmcWords (ecx : Word) : Words := { bytes := opcode 0x33, ecx := some ecx }

/-- The words of WRMSR of a value to a command register. -/
def commandWords (ecx : Word) (v : Quad) : Words := { bytes := opcode 0x30, ecx := some ecx, value := some v }

/-- The words of a TR5 command (rule R137). -/
def tr5Words (c : Config) (f : Tr5) : Words := commandWords 0x07 (packTr5 c f)

/-- The words of a TR6 command (rule R137). -/
def tr6Words (c : Config) (f : Tr6) : Words := commandWords 0x08 (packTr6 c f)

/-- The words of a TR11 command (rule R137). -/
def tr11Words (c : Config) (f : Tr11) : Words := commandWords 0x0D (packTr11 c.variant f)

/-- The words of an instruction (rules R132, R134, R136, R137). -/
def encode (c : Config) : Instr → Words
  | .wrmsr => { bytes := opcode 0x30 }
  | .rdtsc => { bytes := opcode 0x31 }
  | .rdmsr => { bytes := opcode 0x32 }
  | .rdpmc => { bytes := opcode 0x33 }
  | .rdpmcOnP => { bytes := opcode 0x33 }
  | .cpuid => { bytes := opcode 0xA2 }
  | .movImm r imm => { bytes := movByte r :: bytesOfWord imm }
  | .orEaxImm imm => { bytes := 0x0D :: bytesOfWord imm }
  | .andEaxImm imm => { bytes := 0x25 :: bytesOfWord imm }
  | .xorSame r => { bytes := [0x31, xorByte r] }
  | .hlt => { bytes := [0xF4] }
  | .rdmsrMca => rdmsrWords 0x00
  | .wrmsrMca => wrmsrWords 0x00
  | .rdmsrMct => rdmsrWords 0x01
  | .wrmsrMct => wrmsrWords 0x01
  | .rdmsrTr1 => rdmsrWords 0x02
  | .wrmsrTr1 => wrmsrWords 0x02
  | .rdmsrTr2 => rdmsrWords 0x04
  | .wrmsrTr2 => wrmsrWords 0x04
  | .rdmsrTr3 => rdmsrWords 0x05
  | .wrmsrTr3 => wrmsrWords 0x05
  | .rdmsrTr4 => rdmsrWords 0x06
  | .wrmsrTr4 => wrmsrWords 0x06
  | .rdmsrTr5 => rdmsrWords 0x07
  | .wrmsrTr5 => wrmsrWords 0x07
  | .rdmsrTr6 => rdmsrWords 0x08
  | .wrmsrTr6 => wrmsrWords 0x08
  | .rdmsrTr7 => rdmsrWords 0x09
  | .wrmsrTr7 => wrmsrWords 0x09
  | .rdmsrTr9 => rdmsrWords 0x0B
  | .wrmsrTr9 => wrmsrWords 0x0B
  | .rdmsrTr10 => rdmsrWords 0x0C
  | .wrmsrTr10 => wrmsrWords 0x0C
  | .rdmsrTr11 => rdmsrWords 0x0D
  | .wrmsrTr11 => wrmsrWords 0x0D
  | .rdmsrTr12 => rdmsrWords 0x0E
  | .wrmsrTr12 => wrmsrWords 0x0E
  | .rdmsrTsc => rdmsrWords 0x10
  | .wrmsrTsc => wrmsrWords 0x10
  | .rdmsrCesr => rdmsrWords 0x11
  | .wrmsrCesr => wrmsrWords 0x11
  | .rdmsrCtr0 => rdmsrWords 0x12
  | .wrmsrCtr0 => wrmsrWords 0x12
  | .rdmsrCtr1 => rdmsrWords 0x13
  | .wrmsrCtr1 => wrmsrWords 0x13
  | .rdmsrReserved03 => rdmsrWords 0x03
  | .wrmsrReserved03 => wrmsrWords 0x03
  | .rdmsrReserved04 => rdmsrWords 0x04
  | .wrmsrReserved04 => wrmsrWords 0x04
  | .rdmsrReserved0A => rdmsrWords 0x0A
  | .wrmsrReserved0A => wrmsrWords 0x0A
  | .rdmsrReserved0F => rdmsrWords 0x0F
  | .wrmsrReserved0F => wrmsrWords 0x0F
  | .rdmsrReservedAbove ecx => rdmsrWords ecx
  | .wrmsrReservedAbove ecx => wrmsrWords ecx
  | .rdpmcCtr0 => rdpmcWords 0
  | .rdpmcCtr1 => rdpmcWords 1
  | .rdpmcOther ecx => rdpmcWords ecx
  | .tr5Normal buffer set entry cd wb => tr5Words c ⟨0, buffer, set, entry, cd, wb⟩
  | .tr5WriteCode buffer set entry wb => tr5Words c ⟨1, buffer, set, entry, false, wb⟩
  | .tr5WriteData buffer set entry wb => tr5Words c ⟨1, buffer, set, entry, true, wb⟩
  | .tr5ReadCode buffer set entry wb => tr5Words c ⟨2, buffer, set, entry, false, wb⟩
  | .tr5ReadData buffer set entry wb => tr5Words c ⟨2, buffer, set, entry, true, wb⟩
  | .tr5FlushCode buffer set entry wb => tr5Words c ⟨3, buffer, set, entry, false, wb⟩
  | .tr5FlushDataAll buffer set entry => tr5Words c ⟨3, buffer, set, entry, true, false⟩
  | .tr5FlushDataLine buffer set entry => tr5Words c ⟨3, buffer, set, entry, true, true⟩
  | .tr6WriteCode la v d u w ps => tr6Words c ⟨la, v, d, u, w, ps, false, false⟩
  | .tr6WriteData la v d u w ps => tr6Words c ⟨la, v, d, u, w, ps, true, false⟩
  | .tr6ReadCode la v d u w ps => tr6Words c ⟨la, v, d, u, w, ps, false, true⟩
  | .tr6ReadData la v d u w ps => tr6Words c ⟨la, v, d, u, w, ps, true, true⟩
  | .tr11Normal btype set bank way => tr11Words c ⟨0, set, bank, way, btype⟩
  | .tr11Write btype set bank way => tr11Words c ⟨1, set, bank, way, btype⟩
  | .tr11ReadData btype set bank way => tr11Words c ⟨2, set, bank, way, btype⟩
  | .tr11Flush btype set bank way => tr11Words c ⟨3, set, bank, way, btype⟩
  | .tr11ReadTag btype set bank way => tr11Words c ⟨5, set, bank, way, btype⟩
  | .tr11Reserved4 btype set bank way => tr11Words c ⟨4, set, bank, way, btype⟩
  | .tr11Reserved6 btype set bank way => tr11Words c ⟨6, set, bank, way, btype⟩
  | .tr11Reserved7 btype set bank way => tr11Words c ⟨7, set, bank, way, btype⟩

/-- The length of an instruction in bytes (rules R131, R134, R174). -/
def instrLength : Instr → Nat
  | .movImm _ _ | .orEaxImm _ | .andEaxImm _ => 5
  | .hlt => 1
  | _ => 2

/-! ### The opcode table's words -/

/-- Where a word of the opcode table stands (log 37): instruction bytes, a value of `ECX`, or a value written to
a command register. -/
inductive TableWord where
  | bytes (bs : List Byte)
  | index (ecx : Word)
  | command (ecx : Word) (v : Quad)
  deriving DecidableEq, Repr

/-- The bytes of a word of the table, the first byte the more significant (rule R140), and zeros up to the
longest instruction. -/
def tableBytes (nbits w : Nat) : List Byte :=
  if nbits ≤ 8 then [BitVec.ofNat 8 w, 0, 0, 0, 0]
  else [BitVec.ofNat 8 (w / 256), BitVec.ofNat 8 w, 0, 0, 0]

/-- How a word of the table is laid out (log 37). A word of up to 16 bits that holds an instruction is its bytes; a
32-bit word is a value of `ECX`; another word is a value written to TR6 (8 bits), TR5 (bit 13, the suggested
place of CD, set) or TR11. -/
def tableWord (nbits w : Nat) : TableWord :=
  if nbits ≤ 16 then
    match decodeBytes Config.atReset.variant (tableBytes nbits w) with
    | .ok _ => .bytes (tableBytes nbits w)
    | .error _ =>
      if nbits ≤ 8 then .command 0x08 (BitVec.ofNat 64 w)
      else if w.testBit 13 then .command 0x07 (BitVec.ofNat 64 w)
      else .command 0x0D (BitVec.ofNat 64 w)
  else .index (BitVec.ofNat 32 w)

/-- The words the decoder is given for a word of the table. A value of `ECX` is read as the index of RDMSR. -/
def TableWord.words : TableWord → Words
  | .bytes bs => { bytes := bs }
  | .index ecx => rdmsrWords ecx
  | .command ecx v => commandWords ecx v

/-- The instruction the decoder reads from a word of the opcode table (log 37). -/
def decodeTableWord (nbits w : Nat) : Option Instr :=
  match decode Config.atReset (tableWord nbits w).words with
  | .ok i => some i
  | .error _ => none

end Sys2Proof
end

