-- ==== Sys2Proof/Machine/State.lean ====
section
/-!
DEFINITION. The state of the machine as plain data (`10_state.md` rules R20 to R73), the reasons a step can stop,
and the state after reset (rule R80). INVENTORY.md lists every field with its rule and its reset value.
-/

namespace Sys2Proof.Machine

/-- Physical memory or code memory: (address, byte) pairs, addresses strictly rising, no pair equal to what an
unlisted address reads as, which is 00h (log 18). -/
abbrev Memory := List Host.Cell

/-- An array of entries by key, in the same canonical form: keys strictly rising, no entry equal to the one an
unlisted key holds. -/
abbrev Sparse (α : Type) := List (Nat × α)

/-- The eight 4-byte portions of a cache line; portion `k` holds line bytes `4k` to `4k+3`, byte `4k` in bits 7:0
(rule R32, D8). -/
abbrev LineData := Vector Word 8

/-- Four bits for each portion of a line: its end bits, or the bad parity bits of its bytes. -/
abbrev LineBits := Vector (BitVec 4) 8

/-- The states of a data cache line (rule R34, Table 26-2). -/
inductive Mesi where
  | invalid
  | shared
  | exclusive
  | modified
  deriving DecidableEq, Repr

/-- The interface to the IA-32 core (rules R21, R25). -/
structure Core where
  eax : Word
  ecx : Word
  edx : Word
  ebx : Word
  esp : Word
  ebp : Word
  esi : Word
  edi : Word
  eip : Word
  /-- the current privilege level, 0 most privileged (rule R478) -/
  cpl : Fin 4
  cr0 : Word
  cr3 : Word
  cr4 : Word
  dr0 : Word
  dr1 : Word
  dr2 : Word
  dr3 : Word
  deriving DecidableEq, Repr

/-- TR1 and the microcode parity state (rules R30, R66, R67). -/
structure Parity where
  /-- `PRR.PES` -/
  pes : Bool
  /-- `PRRL`, bits 13:1 of the last value written to TR1 -/
  prrl : BitVec 13
  /-- `MCPrev` -/
  mcPrev : Bool
  /-- `MCBadPending` -/
  mcBadPending : Bool
  deriving DecidableEq, Repr

/-- TR2 to TR5, the fill buffer and the end bit buffer (rules R31 to R37, R62, R67). -/
structure CacheTest where
  tr2 : BitVec 4
  tr3 : Word
  tr4 : Tr4
  /-- TR4[31:28] reads zero: a testability read came after the last write of TR4 (rules R33, R199) -/
  tr4UpperZero : Bool
  /-- `TR5L` -/
  tr5 : Tr5
  /-- `FILL[0..7]` -/
  fill : LineData
  /-- `ENDBUF[0..7]` -/
  endbuf : LineBits
  deriving DecidableEq, Repr

/-- TR6 and TR7 (rules R38 to R40). -/
structure TlbTest where
  tr6 : Tr6
  tr7 : Tr7
  deriving DecidableEq, Repr

/-- The model's own record of TLB testing, from which the conditions of rule R222 are decided (log 13). -/
structure TlbSequence where
  /-- a test sequence is open: TR7 or a TLB entry was written by a test command since the last load of CR3 -/
  active : Bool
  /-- the TLB entries written by test commands since the last load of CR3, by TLB and key -/
  tested : List (TlbName × Nat)
  /-- normal operation filled a TLB inside the sequence, or used an entry under test: `TlbTestPre` does not hold -/
  broken : Bool
  deriving DecidableEq, Repr

/-- No TLB test sequence is open. -/
def TlbSequence.closed : TlbSequence := ⟨false, [], false⟩

/-- TR9, TR10 and TR11 (rules R41 to R44), bits 31:0; bits 63:32 are reserved. -/
structure BtbTest where
  tr9 : Word
  tr10 : Word
  tr11 : Word
  deriving DecidableEq, Repr

/-- A line of the code cache (rules R60, R66). -/
structure CodeLine where
  data : LineData
  tag : BitVec 23
  valid : Bool
  /-- one bit per byte, `P` only -/
  endbits : LineBits
  badTag : Bool
  /-- the bad parity bits of the data groups of ID0 to ID3 -/
  badData : BitVec 4
  deriving DecidableEq, Repr

/-- A line of the data cache (rules R61, R66). -/
structure DataLine where
  data : LineData
  tag : BitVec 23
  state : Mesi
  /-- writeback allowed -/
  wb : Bool
  badTag : Bool
  /-- one bad parity bit per byte (D13) -/
  badByte : LineBits
  deriving DecidableEq, Repr

/-- The caches (rules R60, R61), by the key `set * 4 + way`; the LRU bits by set. -/
structure Caches where
  icache : Sparse CodeLine
  icacheLru : Sparse (BitVec 3)
  dcache : Sparse DataLine
  dcacheLru : Sparse (BitVec 3)
  deriving DecidableEq, Repr

/-- An entry of a TLB (rules R63, R64, R66). In the code TLB `ps`, `d` and `w` are not defined and stay false. -/
structure TlbEntry where
  v : Bool
  lpn : BitVec 20
  ps : Bool
  d : Bool
  u : Bool
  w : Bool
  ppn : BitVec 20
  pcd : Bool
  pwt : Bool
  badTag : Bool
  badData : Bool
  deriving DecidableEq, Repr

/-- The TLBs (rules R63, R64). On `P` a key is `set * 4 + way` and `data` holds the 4-Kbyte entries; on `PMMX` a
key is an entry number, `data` holds all entries and `data4M` and the LRU bits do not exist. -/
structure Tlbs where
  code : Sparse TlbEntry
  data : Sparse TlbEntry
  data4M : Sparse TlbEntry
  codeLru : Sparse (BitVec 3)
  dataLru : Sparse (BitVec 3)
  data4MLru : Sparse (BitVec 3)
  deriving DecidableEq, Repr

/-- An entry of the BTB (rule R65). On `P` `history` has two bits and `offset`, `prediction` and `btype` do not exist; on
`PMMX` `tag` has 24 bits. Bits that do not exist are zero. -/
structure BtbEntry where
  tag : BitVec 26
  history : BitVec 4
  target : Word
  valid : Bool
  offset : BitVec 2
  prediction : Bool
  btype : BitVec 2
  deriving DecidableEq, Repr

/-- The counters, CESR and the PM and BP pins (rules R46 to R50, R68, R73, R472). -/
structure Perf where
  tsc : Quad
  cesr : Word
  ctr0 : BitVec 40
  ctr1 : BitVec 40
  /-- `INC[0]`, `INC[1]`, `OVF[0]`, `OVF[1]` of the last clock (rule R68) -/
  inc0 : Bool
  inc1 : Bool
  ovf0 : Bool
  ovf1 : Bool
  /-- the signals of the last `PM_PIN_LAG` clocks, oldest first, on their way to the pins (rule R337) -/
  pipe : List (Bool × Bool)
  /-- the pin PM0/BP0 -/
  pm0 : Bool
  /-- the pin PM1/BP1 -/
  pm1 : Bool
  /-- the pin BP2 (rules R397, R472) -/
  bp2 : Bool
  /-- the pin BP3 (rules R397, R472) -/
  bp3 : Bool
  /-- the model's own: the number of internal clocks passed, the index of the oracles (log 8) -/
  clock : Nat
  deriving DecidableEq, Repr

/-- What the core is doing: executing, in the HALT state (rule R477), or in shutdown (rule R470). -/
inductive RunState where
  | running
  | halted
  | shutdown
  deriving DecidableEq, Repr

/-- The function of the PM0/BP0 and PM1/BP1 pins (rules R80, R338). -/
inductive PinFunction where
  | performanceMonitoring
  | breakpoint
  deriving DecidableEq, Repr

/-- The outputs a rule of the spec emits (rules R73, R196, R303, R471). -/
inductive Output where
  /-- `Assert(IERR#)` -/
  | ierr
  /-- `BranchTrace(from = a)` -/
  | branchFrom (a : Word)
  /-- `BranchTrace(to = a)` -/
  | branchTo (a : Word)
  /-- `MemWrite(a, 32, data)`: a modified line sent to the bus -/
  | memWrite (a : Word) (data : LineData)
  deriving DecidableEq, Repr

/-- What happened that the next clocks count (rules R368, R380, R384, R469; log 8). -/
inductive Occurrence where
  /-- an instruction was executed -/
  | instruction
  /-- a dirty line was written back -/
  | writeback
  /-- FLUSH# was serviced -/
  | flushService
  /-- a taken branch was executed -/
  | takenBranch
  deriving DecidableEq, Repr

/-- The agents other than the core (rule R14), each with what it does at its next move (log 17). What the source
leaves open about an agent's move is an operand: any value may stand there. -/
inductive Agent where
  /-- the pin `RESET` (rule R500) -/
  | reset
  /-- the pin `FLUSH#`, serviced at this instruction boundary (rule R473) -/
  | flush
  /-- `n` clocks pass (rules R322, R335) -/
  | clocks (n : Nat)
  /-- a machine check: the address and the type of the cycle causing the exception (rules R28, R29, R463; log 28) -/
  | machineCheck (addr type : Quad)
  /-- the IA-32 core loads CR3 (rules R230, R260, R478) -/
  | loadCr3 (v : Word)
  /-- the IA-32 core loads CR0 (rules R25, R478) -/
  | loadCr0 (v : Word)
  /-- the IA-32 core loads CR4 (rules R25, R478) -/
  | loadCr4 (v : Word)
  /-- the IA-32 core loads a breakpoint address register (rule R25) -/
  | loadDr (i : Fin 4) (v : Word)
  /-- the IA-32 core changes the privilege level (rule R478) -/
  | changeCpl (c : Fin 4)
  /-- a memory data read at a physical address, within one 4-byte portion (rules R109, R113, R284); a wider or misaligned
  read is several turns (rule R103; DESIGN CHOICE, log 43) -/
  | dataRead (a : Word)
  /-- a memory data write of a byte: the state it leaves a line it hits in, and whether it reaches memory (rules R109,
  R283, R284); a wider write is several turns (rule R103; DESIGN CHOICE, log 43) -/
  | dataWrite (a : Word) (b : Byte) (line : Mesi) (reachesMemory : Bool)
  /-- a byte of physical memory written from outside the processor (rule R100) -/
  | memoryWrite (a : Word) (b : Byte)
  /-- a code fetch at a physical address beyond those of the instructions executed (rules R110, R284; log 50) -/
  | codeFetch (a : Word)
  /-- normal replacement fills a code cache line (rules R183, R283, R305, R308) -/
  | fillCode (set : BitVec 7) (way : BitVec 2) (tag : BitVec 23) (data : LineData)
  /-- normal replacement fills a data cache line (rules R283, R305, R309) -/
  | fillData (set : BitVec 7) (way : BitVec 2) (tag : BitVec 23) (data : LineData) (state : Mesi) (wb : Bool)
  /-- normal operation gives up a code cache line -/
  | evictCode (set : BitVec 7) (way : BitVec 2)
  /-- normal operation gives up a data cache line -/
  | evictData (set : BitVec 7) (way : BitVec 2)
  /-- normal operation changes the LRU bits of a set of the code cache -/
  | touchCode (set : BitVec 7) (lru : BitVec 3)
  /-- normal operation changes the LRU bits of a set of the data cache -/
  | touchData (set : BitVec 7) (lru : BitVec 3)
  /-- decoding repairs the end bits of a code cache line (rule R183) -/
  | repairEndBits (set : BitVec 7) (way : BitVec 2) (bits : LineBits)
  /-- the code cache allocates a BTB entry (rule R302) -/
  | btbAllocate (set : BitVec 6) (bank way : BitVec 2) (e : BtbEntry)
  /-- a BTB entry is deallocated (rules R252, R302) -/
  | btbRelease (set : BitVec 6) (bank way : BitVec 2)
  /-- address translation, with paging on, fills a TLB entry (rules R222, R283); on `P` with the LRU bits it leaves in the set -/
  | tlbFill (t : TlbName) (entry : BitVec 6) (lru : BitVec 3) (e : TlbEntry)
  /-- address translation, with paging on, looks a linear page up in a TLB (rules R222, R284) -/
  | tlbLookup (t : TlbName) (la : BitVec 20)
  /-- a taken branch is executed (rules R303, R306) -/
  | takenBranch (source target : Word)
  deriving DecidableEq, Repr

/-- A turn of a run: the core executes, or another agent moves (rules R13, R14; log 17). -/
inductive Turn where
  /-- the core executes one instruction, or idles in the HALT state -/
  | core
  | agent (a : Agent)
  deriving DecidableEq, Repr

/-- The state of the machine. -/
structure State where
  /-- the model's own: the configuration, which no step changes (log 1) -/
  cfg : Config
  core : Core
  mca : Quad
  mct : Quad
  parity : Parity
  cacheTest : CacheTest
  tlbTest : TlbTest
  /-- the model's own: where a TLB test stands (rule R222, log 13) -/
  tlbSequence : TlbSequence
  btbTest : BtbTest
  /-- `TR12L` (rules R45, R67) -/
  tr12 : Quad
  perf : Perf
  caches : Caches
  tlbs : Tlbs
  /-- the BTB (rule R65) by key: `set * 4 + way` on `P`, `(set * 4 + way) * 4 + bank` on `PMMX` -/
  btb : Sparse BtbEntry
  /-- physical memory (rule R100) -/
  mem : Memory
  /-- code memory, which no rule writes (D1) -/
  code : Memory
  run : RunState
  pins : PinFunction
  /-- the outputs emitted, newest first -/
  trace : List Output
  /-- the model's own: occurrences the next clocks count, one a clock, oldest first (log 8) -/
  occurred : List Occurrence
  /-- the model's own: the turns to come; when none is left every turn is the core's (log 17) -/
  agenda : List Turn
  /-- the model's own: how many free values have been used (log 6) -/
  draws : Nat
  deriving DecidableEq, Repr

/-- Why the machine stops. -/
inductive Fault where
  /-- `Fault(vector, error code, pc)`: a raised exception. Delivery is not described by the spec, so a raise ends the
  run with no register changed (rule R465, D7). Raised by `raiseGp`, `raiseUd` and the machine check agent. SAFE:
  the model stops where the hardware enters a handler (log 14). -/
  | raised (vector : Nat) (errorCode : Option Word) (pc : Word)
  /-- the terminal outcome `Shutdown` (rule R470): a step of a machine in shutdown. SAFE: only RESET leaves it in the
  model (D38; log 15). -/
  | shutdown
  deriving DecidableEq, Repr

/-- Why a step has no meaning. All are SAFE: the model stops where the spec gives no meaning. -/
inductive Refusal where
  /-- exec's arm for an instruction that has no meaning yet -/
  | notModelled (mnemonic : String)
  /-- `step`: the bytes at EIP hold no instruction of this spec (rules R135, R138) -/
  | undecodable (e : DecodeError)
  /-- an access to a reserved MSR index under the policy `refuse` (rules R163, R165; D3) -/
  | reservedMsr (index : Word) (write : Bool)
  /-- a write with a one in a reserved bit: unpredictable (rule R24 b; D4) -/
  | reservedBits (m : Msr)
  /-- a write to a test register while the conditions of its test procedure do not hold: unpredictable (rules R24 c,
  R181, R221, R251; D5) -/
  | normalOperation (m : Msr)
  /-- a write to MCA or MCT: no meaning (rules R28, R29; D15) -/
  | machineCheckWrite (m : Msr)
  /-- a TLB write with TR7.H = 0: unpredictable (rules R224, R225) -/
  | tlbHitBitClear
  /-- a TLB read or a TLB lookup by normal operation that matches two entries of one TLB: no meaning (rules R224 d,
  R226, R227) -/
  | tlbDoubleMatch
  /-- an access by normal operation that hits two valid lines of one cache: no meaning (rule R189 a; D5) -/
  | cacheDoubleHit
  /-- a reserved TR11 control value: no meaning (rule R258) -/
  | btbReservedControl (control : BitVec 3)
  /-- on `P`, a BTB write of a tag that another valid entry of the set has: no meaning (rule R254) -/
  | btbDuplicateTag
  /-- CPUID of a function other than 1 (rule R160) -/
  | cpuidFunction (eax : Word)
  /-- a row of the opcode table that does not exist on the variant, or an operand wider than its field on the variant -/
  | notOnVariant
  deriving DecidableEq, Repr

/-- An invalid code cache line of zeros. -/
def CodeLine.empty : CodeLine where
  data := Vector.replicate 8 0
  tag := 0
  valid := false
  endbits := Vector.replicate 8 0
  badTag := false
  badData := 0

/-- An invalid data cache line of zeros. -/
def DataLine.empty : DataLine where
  data := Vector.replicate 8 0
  tag := 0
  state := .invalid
  wb := false
  badTag := false
  badByte := Vector.replicate 8 0

/-- An invalid TLB entry of zeros. -/
def TlbEntry.empty : TlbEntry where
  v := false
  lpn := 0
  ps := false
  d := false
  u := false
  w := false
  ppn := 0
  pcd := false
  pwt := false
  badTag := false
  badData := false

/-- An invalid BTB entry of zeros. -/
def BtbEntry.empty : BtbEntry where
  tag := 0
  history := 0
  target := 0
  valid := false
  offset := 0
  prediction := false
  btype := 0

/-- The core's registers after RESET: the family's values (PRESUMED, log 4). EDX holds family 5, the model and
stepping 0; CR0 has CD = NW = 1. -/
def Core.atReset (c : Config) : Core where
  eax := 0
  ecx := 0
  edx := 0x500#32 ||| (c.model.setWidth 32 <<< 4)
  ebx := 0
  esp := 0
  ebp := 0
  esi := 0
  edi := 0
  eip := 0xFFF0
  cpl := 0
  cr0 := 0x60000010
  cr3 := 0
  cr4 := 0
  dr0 := 0
  dr1 := 0
  dr2 := 0
  dr3 := 0

/-- The counters after RESET (rule R80): TSC and CESR 0; CTR0 and CTR1 "undefined", 0 in the model (log 5). -/
def Perf.atReset : Perf where
  tsc := 0
  cesr := 0
  ctr0 := 0
  ctr1 := 0
  inc0 := false
  inc1 := false
  ovf0 := false
  ovf1 := false
  pipe := []
  pm0 := false
  pm1 := false
  bp2 := false
  bp3 := false
  clock := 0

/-- The cache test registers after RESET: no sentence gives a value, 0 in the model (rule R80, log 5). -/
def CacheTest.atReset : CacheTest where
  tr2 := 0
  tr3 := 0
  tr4 := ⟨0, 0, 0⟩
  tr4UpperZero := false
  tr5 := ⟨0, 0, 0, 0, false, false⟩
  fill := Vector.replicate 8 0
  endbuf := Vector.replicate 8 0

/-- The TLB test registers after RESET: no sentence gives a value, 0 in the model (rule R80, log 5). -/
def TlbTest.atReset : TlbTest where
  tr6 := ⟨0, false, false, false, false, false, false, false⟩
  tr7 := ⟨0, false, false, 0, false, 0⟩

/-- The machine with configuration `c` right after RESET (rules R80, R500; logs 4, 5). -/
def State.resetWith (c : Config) : State where
  cfg := c
  core := Core.atReset c
  mca := 0
  mct := 0
  parity := ⟨false, 0, false, false⟩
  cacheTest := CacheTest.atReset
  tlbTest := TlbTest.atReset
  tlbSequence := TlbSequence.closed
  btbTest := ⟨0, 0, 0⟩
  tr12 := 0
  perf := Perf.atReset
  caches := ⟨[], [], [], []⟩
  tlbs := ⟨[], [], [], [], [], []⟩
  btb := []
  mem := []
  code := []
  run := .running
  pins := .performanceMonitoring
  trace := []
  occurred := []
  agenda := []
  draws := 0

/-- The machine right after reset: every field at the value rule R80 states, and where it states none at the value
logs 1, 4 and 5 name. -/
def State.reset : State := State.resetWith Config.atReset

/-! ### Updates of one part of the state -/

def State.withCore (s : State) (x : Core) : State := { s with core := x }
def State.withMachineCheck (s : State) (addr type : Quad) : State := { s with mca := addr, mct := type }
def State.withParity (s : State) (x : Parity) : State := { s with parity := x }
def State.withCacheTest (s : State) (x : CacheTest) : State := { s with cacheTest := x }
def State.withTlbTest (s : State) (x : TlbTest) : State := { s with tlbTest := x }
def State.withTlbSequence (s : State) (x : TlbSequence) : State := { s with tlbSequence := x }
def State.withBtbTest (s : State) (x : BtbTest) : State := { s with btbTest := x }
def State.withTr12 (s : State) (x : Quad) : State := { s with tr12 := x }
def State.withPerf (s : State) (x : Perf) : State := { s with perf := x }
def State.withCaches (s : State) (x : Caches) : State := { s with caches := x }
def State.withTlbs (s : State) (x : Tlbs) : State := { s with tlbs := x }
def State.withBtb (s : State) (x : Sparse BtbEntry) : State := { s with btb := x }
def State.withMem (s : State) (x : Memory) : State := { s with mem := x }
def State.withCode (s : State) (x : Memory) : State := { s with code := x }
def State.withRun (s : State) (x : RunState) : State := { s with run := x }
def State.withTrace (s : State) (x : List Output) : State := { s with trace := x }
def State.withOccurred (s : State) (x : List Occurrence) : State := { s with occurred := x }
def State.withAgenda (s : State) (x : List Turn) : State := { s with agenda := x }
def State.withDraws (s : State) (x : Nat) : State := { s with draws := x }

end Sys2Proof.Machine
end

