-- ==== Sys2Proof/Machine/Flags.lean ====
section
/-!
DEFINITION. The control and status bits by name: CR0, CR4, TR1, TR12, CESR (rules R25, R30, R45, R47 to R49), and
the encodings of the valid and LRU bits of TR4 (rules R34, R35). No instruction of this spec reads or writes an
arithmetic status flag (rules R21, R171; log 35).
-/

namespace Sys2Proof.Machine

/-! ### CR0 and CR4 (rule R25; the numbers of PG, CD, NW and MCE are PRESUMED, log 32) -/

/-- Paging is on (rule R222, item 4: `CR0.PG`). -/
def Core.pg (c : Core) : Bool := c.cr0.getLsbD 31
def Core.cd (c : Core) : Bool := c.cr0.getLsbD 30
def Core.nw (c : Core) : Bool := c.cr0.getLsbD 29
def Core.tsd (c : Core) : Bool := c.cr4.getLsbD 2
def Core.mce (c : Core) : Bool := c.cr4.getLsbD 6
def Core.pce (c : Core) : Bool := c.cr4.getLsbD 8

/-! ### TR1, the Parity Reversal Register (rule R30): `PRRL` holds bits 13:1 -/

/-- Bit `n` of TR1, `n` from 1 to 13. -/
def Parity.bit (p : Parity) (n : Nat) : Bool := p.prrl.getLsbD (n - 1)

def Parity.ns (p : Parity) : Bool := p.bit 1
def Parity.it (p : Parity) : Bool := p.bit 2
/-- ID0 to ID3, the bit of group `g` at position `g`. -/
def Parity.id (p : Parity) : BitVec 4 := p.prrl.extractLsb' 2 4
def Parity.itt (p : Parity) : Bool := p.bit 7
def Parity.itd (p : Parity) : Bool := p.bit 8
def Parity.dt (p : Parity) : Bool := p.bit 9
def Parity.dd (p : Parity) : Bool := p.bit 10
def Parity.dtt (p : Parity) : Bool := p.bit 11
def Parity.dtd (p : Parity) : Bool := p.bit 12
def Parity.mc (p : Parity) : Bool := p.bit 13

/-! ### TR12, New Feature Control (rule R45) -/

def State.nbp (s : State) : Bool := s.tr12.getLsbD 0
def State.tr (s : State) : Bool := s.tr12.getLsbD 1
def State.se (s : State) : Bool := s.tr12.getLsbD 2
def State.ci (s : State) : Bool := s.tr12.getLsbD 3
def State.ftr (s : State) : Bool := s.tr12.getLsbD 8
/-- Latched; nothing in this spec reads it (rule R307). -/
def State.itr (s : State) : Bool := s.tr12.getLsbD 9
def State.cci (s : State) : Bool := s.tr12.getLsbD 19
def State.dci (s : State) : Bool := s.tr12.getLsbD 20

/-- Line fills of the code cache are inhibited: CI, or CCI on `PMMX` (rules R305, R308). -/
def State.codeFillInhibited (s : State) : Bool := s.ci || (decide (s.cfg.variant = .pmmx) && s.cci)

/-- Line fills of the data cache are inhibited: CI, or DCI on `PMMX` (rules R305, R309). -/
def State.dataFillInhibited (s : State) : Bool := s.ci || (decide (s.cfg.variant = .pmmx) && s.dci)

/-! ### CESR (rules R47 to R49), by counter number -/

/-- `CESR.ES<i>`, the event select code. -/
def cesrEs (c : Config) (cesr : Word) (i : Fin 2) : Nat :=
  fieldNat (if i = 0 then c.cesr.es0 else c.cesr.es1) (zeroHigh cesr)

/-- `CESR.CC<i>`, the counter control. -/
def cesrCc (c : Config) (cesr : Word) (i : Fin 2) : BitVec 3 :=
  fieldBits 3 (if i = 0 then c.cesr.cc0 else c.cesr.cc1) (zeroHigh cesr)

/-- `CESR.PC<i>`, the pin control: false signals "has incremented", true "has overflowed". -/
def cesrPc (c : Config) (cesr : Word) (i : Fin 2) : Bool :=
  fieldFlag (if i = 0 then c.cesr.pc0 else c.cesr.pc1) (zeroHigh cesr)

/-- The enable predicate `en(i)` (rules R48, R334). -/
def counterEnabled (cc : BitVec 3) (cpl : Fin 4) : Bool :=
  (cc.getLsbD 0 && decide (cpl.val < 3)) || (cc.getLsbD 1 && decide (cpl.val = 3))

/-! ### The valid and LRU bits of TR4 -/

/-- The state of a data cache line from the valid bits (rule R34). -/
def mesiOfBits (v : BitVec 2) : Mesi :=
  if v = 0 then .invalid else if v = 1 then .shared else if v = 2 then .exclusive else .modified

/-- The valid bits of a data cache line's state (rule R34). -/
def mesiBits : Mesi → BitVec 2
  | .invalid => 0
  | .shared => 1
  | .exclusive => 2
  | .modified => 3

/-- The way the LRU bits point to (rule R35). -/
def lruWay (v : Variant) (lru : BitVec 3) : Nat :=
  match v with
  | .p => if lru.getLsbD 0 then 1 else 0
  | .pmmx =>
    if lru.getLsbD 0 then (if lru.getLsbD 2 then 3 else 2) else (if lru.getLsbD 1 then 1 else 0)

end Sys2Proof.Machine
end

