-- ==== Sys2Proof/Machine/Operands.lean ====
section
/-!
DEFINITION. The operand forms: the registers the helper instructions name (rule R21), the implicit operands
`ECX` and `EDX:EAX` (rule R133), the fields of a register value (rules R41 to R43), the index of an array entry,
and the line portions (rules R32, R62).
-/

namespace Sys2Proof.Machine

/-- `x[r]` (rule R12). -/
def Core.read (c : Core) : Reg → Word
  | .eax => c.eax
  | .ecx => c.ecx
  | .edx => c.edx

/-- `x[r] <- v` (rule R12). -/
def Core.write (c : Core) (r : Reg) (v : Word) : Core :=
  match r with
  | .eax => { c with eax := v }
  | .ecx => { c with ecx := v }
  | .edx => { c with edx := v }

/-- `EDX ++ EAX`, the 64-bit value WRMSR writes (rules R102 a, R164). -/
def Core.edxEax (c : Core) : Quad := joinHalves c.edx c.eax

/-- `EDX <- v[63:32] ; EAX <- v[31:0]` (rules R102 a, R161). -/
def Core.writeEdxEax (c : Core) (v : Quad) : Core := { c with edx := highHalf v, eax := lowHalf v }

/-- A register value whose bits outside `mask` are those of `free` (rule R23). -/
def withFreeBits (mask value free : Quad) : Quad := (value &&& mask) ||| (free &&& ~~~mask)

/-- The tag field of TR9: bits 31:6 on `P`, 31:8 on `PMMX` (rule R41). -/
def tr9Tag (v : Variant) (x : Word) : BitVec 26 :=
  match v with
  | .p => x.extractLsb' 6 26
  | .pmmx => (x.extractLsb' 8 24).setWidth 26

/-- The history field of TR9: bits 1:0 on `P`, 3:0 on `PMMX` (rule R41). -/
def tr9History (v : Variant) (x : Word) : BitVec 4 :=
  match v with
  | .p => (x.extractLsb' 0 2).setWidth 4
  | .pmmx => x.extractLsb' 0 4

/-- The bits of `x` under `mask` replaced by those of `y`. -/
def replaceBits (mask x y : Word) : Word := (x &&& ~~~mask) ||| (y &&& mask)

/-- TR9 after a testability read data on `PMMX`: offset 7:6, prediction 4 and history 3:0 delivered, the tag and
bit 5 kept (rule R255). -/
def tr9AfterReadData (x : Word) (e : BtbEntry) : Word :=
  replaceBits 0xDF x
    ((e.offset.setWidth 32 <<< 6) ||| ((BitVec.ofBool e.prediction).setWidth 32 <<< 4) ||| e.history.setWidth 32)

/-- TR9 after a testability read TAG: tag 31:8 and valid bit 5 delivered, the rest kept (rule R256). -/
def tr9AfterReadTag (x : Word) (e : BtbEntry) : Word :=
  replaceBits 0xFFFFFF20 x ((e.tag.setWidth 32 <<< 8) ||| ((BitVec.ofBool e.valid).setWidth 32 <<< 5))

/-- TR9 after a testability read on `P`: tag 31:6 and history 1:0 delivered (rule R255). -/
def tr9AfterReadP (x : Word) (e : BtbEntry) : Word :=
  replaceBits 0xFFFFFFC3 x ((e.tag.setWidth 32 <<< 6) ||| (e.history.setWidth 32 &&& 3))

/-- TR11 with the branch type field delivered by a read data (rule R255). -/
def tr11WithType (x : Word) (t : BitVec 2) : Word := replaceBits 0x03000000 x (t.setWidth 32 <<< 24)

/-- The way `w` of `41_cache_test.md`: Entry[0] on `P`, Entry[1:0] on `PMMX`. -/
def cacheWay (v : Variant) (entry : BitVec 2) : Nat :=
  match v with
  | .p => entry.toNat % 2
  | .pmmx => entry.toNat

/-- The key of a cache line. -/
def lineKey (set : BitVec 7) (way : Nat) : Nat := set.toNat * 4 + way

/-- The key of a BTB entry (rule R65). -/
def btbKey (v : Variant) (set : BitVec 6) (way bank : BitVec 2) : Nat :=
  match v with
  | .p => set.toNat * 4 + way.toNat
  | .pmmx => (set.toNat * 4 + way.toNat) * 4 + bank.toNat

/-- A BTB entry without the bits its variant does not have (rules R8, R65). -/
def clipBtb (v : Variant) (e : BtbEntry) : BtbEntry :=
  match v with
  | .p => { e with history := e.history &&& 3, offset := 0, prediction := false, btype := 0 }
  | .pmmx => { e with tag := BitVec.ofNat 26 (e.tag.toNat % 2 ^ Variant.btbTagBits .pmmx) }

/-- The number of sets of a four-way TLB of `P` (rule R234). -/
def tlbSets : TlbName → Nat
  | .code => 8
  | .data4K => 16
  | .data4M => 2

/-- The set of a four-way TLB of `P` that a linear page selects (rule R234, log 23). -/
def tlbSet (t : TlbName) (la : BitVec 20) : Nat := Config.tlbIndex t la % tlbSets t

/-- A cache tag without the bits above `CACHE_TAG_BITS` (rules R9, R33; log 41). -/
def clipTag (c : Config) (tag : BitVec 23) : BitVec 23 := BitVec.ofNat 23 (tag.toNat % 2 ^ c.cacheTagBits)

/-- The physical line address a cache tag and set stand for: `tag ++ set ++ 00000b` with the derived tag width of 20
bits, and else a free multiple of 32 (rule R196; DEDUCED, log 20). -/
def lineAddress (c : Config) (tag : BitVec 23) (set : BitVec 7) : Word :=
  if c.cacheTagBits = 20 then tag.setWidth 20 ++ set ++ 0#5
  else Config.lineNumber c.cacheTagBits tag set ++ 0#5

/-- The tag of a physical address: bits 31:12 with the derived tag width, and else free (rule R196; log 20). -/
def addressTag (c : Config) (a : Word) : BitVec 23 :=
  if c.cacheTagBits = 20 then (a.extractLsb' 12 20).setWidth 23
  else clipTag c (Config.lineTagAndSet c.cacheTagBits (a.extractLsb' 5 27)).1

/-- The set of a physical address: bits 11:5 with the derived tag width, and else free (rule R196; log 20). -/
def addressSet (c : Config) (a : Word) : BitVec 7 :=
  if c.cacheTagBits = 20 then a.extractLsb' 5 7
  else (Config.lineTagAndSet c.cacheTagBits (a.extractLsb' 5 27)).2

/-- The portion of its line a physical address lies in, bits 4:2 (rule R32). -/
def addressPortion (a : Word) : BitVec 3 := a.extractLsb' 2 3

/-- Portion `k` of a line. -/
def portion {α : Type} (d : Vector α 8) (k : BitVec 3) : α := d[k.toNat]'(k.isLt)

/-- A line with portion `k` replaced. -/
def setPortion {α : Type} (d : Vector α 8) (k : BitVec 3) (x : α) : Vector α 8 := d.set k.toNat x k.isLt

/-- Byte `i` of a line, `i` from 0 to 31 (rule R32, D8). -/
def lineByte (d : LineData) (i : Nat) : Byte :=
  (portion d (BitVec.ofNat 3 (i / 4))).extractLsb' (8 * (i % 4)) 8

/-- Every bit of a bad parity mask equal to one reversal bit. -/
def allBits (b : Bool) : BitVec 4 := if b then 0xF else 0

end Sys2Proof.Machine
end

