-- ==== Sys2Proof/Machine/Ops.lean ====
section
/-!
DEFINITION. The named operations: arrays and memory in canonical form, raising an exception (rule R465), the
privilege check (rule R162), free values (rule R12), the program counter (rule R21), reserved bits and
preconditions of a write (rules R24, R182, R252), parity errors (rule R287) and the writeback of a line (rule R196).
-/

namespace Sys2Proof.Machine

/-- What one instruction or one step answers. -/
abbrev Result := Host.Outcome State Fault Refusal

/-! ### Arrays by key -/

/-- The entry at key `k`; an unlisted key holds `d`. -/
def Sparse.get {α : Type} (d : α) : Sparse α → Nat → α
  | [], _ => d
  | (k', v) :: m, k => if k' = k then v else Sparse.get d m k

/-- The pair placed before the first larger key. -/
def Sparse.insert {α : Type} (k : Nat) (v : α) : Sparse α → Sparse α
  | [] => [(k, v)]
  | (k', v') :: m => if k < k' then (k, v) :: (k', v') :: m else (k', v') :: Sparse.insert k v m

/-- The array without its entries at `k`. -/
def Sparse.erase {α : Type} (m : Sparse α) (k : Nat) : Sparse α := m.filter fun p => decide (p.1 ≠ k)

/-- The entry at `k` set to `v`, in canonical form: an entry equal to `d` is not listed. -/
def Sparse.put {α : Type} [DecidableEq α] (d : α) (m : Sparse α) (k : Nat) (v : α) : Sparse α :=
  if v = d then Sparse.erase m k else Sparse.insert k v (Sparse.erase m k)

/-- Every entry changed by `f`, which leaves the unlisted entry `d` as it is. -/
def Sparse.mapAll {α : Type} [DecidableEq α] (d : α) (f : α → α) (m : Sparse α) : Sparse α :=
  (m.map fun p => (p.1, f p.2)).filter fun p => decide (p.2 ≠ d)

/-- The canonical form: keys strictly rising and below `bound`, no entry equal to the unlisted one. -/
abbrev Sparse.Canonical {α : Type} [DecidableEq α] (d : α) (bound : Nat) (m : Sparse α) : Prop :=
  m.Pairwise (fun a b => a.1 < b.1) ∧ ∀ p ∈ m, p.2 ≠ d ∧ p.1 < bound

/-! ### Memory (rule R100) -/

/-- What an address that nothing has written reads as (DESIGN CHOICE, log 18). -/
def unlistedByte : Byte := 0

/-- The canonical form of a memory of 2^32 bytes. -/
abbrev Memory.wf (m : Memory) : Prop := Sparse.Canonical unlistedByte (2 ^ 32) m

/-- The byte at an address. -/
def readByte (m : Memory) (a : Nat) : Byte := Sparse.get unlistedByte m a

/-- The memory with one byte written. -/
def writeByte (m : Memory) (a : Nat) (b : Byte) : Memory := Sparse.put unlistedByte m a b

/-- Consecutive bytes written from address `a` on. -/
def writeBytes (m : Memory) (a : Nat) : List Byte → Memory
  | [] => m
  | b :: bs => writeBytes (writeByte m a b) (a + 1) bs

/-- The 32 bytes of a line in address order (rule R32). -/
def lineBytes (d : LineData) : List Byte := (List.range 32).map (lineByte d)

/-- `MemWrite(a, 32, d)` (rule R196). -/
def writeLine (m : Memory) (a : Word) (d : LineData) : Memory := writeBytes m a.toNat (lineBytes d)

/-- The bytes of code memory from `a` on, at most `n`, none past address 2^32 - 1 (D1, rule R102 c). -/
def fetchBytes (code : Memory) (a : Nat) : Nat → List Byte
  | 0 => []
  | n + 1 => if a < 2 ^ 32 then readByte code a :: fetchBytes code (a + 1) n else []

/-! ### Exceptions (rules R460 to R465) -/

/-- Taking an exception: the run ends in `Fault(vector, error code, pc)`, no register changed, `pc` that of the
faulting instruction (rule R465, D7; log 14). The spec describes no entry and no return (rule R466). -/
def raiseException (vector : Nat) (errorCode : Option Word) (s : State) : Result :=
  .fault (.raised vector errorCode s.core.eip)

/-- `raise #GP(0)`: vector 13, error code 0 (rule R461). -/
def raiseGp (s : State) : Result := raiseException 13 (some 0) s

/-- `raise #UD`: vector 6, no error code (rule R462). -/
def raiseUd (s : State) : Result := raiseException 6 none s

/-- `raise #MC`: vector 18, no error code (rule R463). -/
def raiseMc (s : State) : Result := raiseException 18 none s

/-- An instruction that executes only at CPL 0 (rules R162, R174, R478). -/
def privileged (s : State) (k : Result) : Result := if s.core.cpl = 0 then k else raiseGp s

/-- An access to a reserved MSR index (rules R163, R165; `RESERVED_MSR_POLICY`, log 10). -/
def reservedAccess (index : Word) (write : Bool) (s : State) : Result :=
  match s.cfg.reservedPolicy with
  | .refuse => .refused (.reservedMsr index write)
  | .gpFault => raiseGp s

/-! ### Free values (rule R12, log 6) -/

/-- The `i`-th free value of this instruction. -/
def State.free (s : State) (i : Nat) : Quad := Config.draw (s.draws + i)

/-- `draw(n bits)`. -/
def State.freeBits (s : State) (i n : Nat) : BitVec n := (s.free i).setWidth n

/-- `draw(bool)`. -/
def State.freeBool (s : State) (i : Nat) : Bool := (s.free i).getLsbD 0

/-- The first `n` free values are used up. -/
def State.useDraws (s : State) (n : Nat) : State := s.withDraws (s.draws + n)

/-- Eight free portions, from the `i`-th free value on (rules R113, R191 b, R473). -/
def State.freeLine (s : State) (i : Nat) : LineData := Vector.ofFn fun k : Fin 8 => s.freeBits (i + k.val) 32

/-! ### The program counter -/

/-- The address after an instruction of `n` bytes; past 2^32 - 1 a free value (rule R21, D7; log 19). -/
def eipAfter (eip : Word) (n : Nat) : Word :=
  if eip.toNat + n < 2 ^ 32 then eip + BitVec.ofNat 32 n else Config.eipPastEnd eip n

/-- `pc <- pc + n` (rule R12). -/
def State.advance (s : State) (n : Nat) : State := s.withCore { s.core with eip := eipAfter s.core.eip n }

/-- `EDX:EAX <- v ; pc <- pc + 2` (rules R161, R323, R340). -/
def State.result (s : State) (v : Quad) : State := (s.withCore (s.core.writeEdxEax v)).advance 2

/-! ### Writes to model specific registers (rule R24) -/

/-- A write with a one in a reserved bit is unpredictable (rule R24 b). -/
def noReservedOnes (m : Msr) (v : Quad) (s : State) (k : Result) : Result :=
  if hasReservedOne s.cfg m v then .refused (.reservedBits m) else k

/-- `CacheTestPre`, the conditions on state (rule R182, items 1 and 2), judged at each write alone: where a test sequence
begins and ends is not recorded (DESIGN CHOICE, log 12). -/
def cacheTestPre (s : State) : Bool := s.core.cd && s.core.nw

/-- `TlbTestPre` (rule R222; log 13). -/
def tlbTestPre (s : State) : Bool := !s.tlbSequence.broken

/-- `BtbTestPre` (rule R252, which asks it of every command). -/
def btbTestPre (s : State) : Bool := s.nbp

/-- A test register may be written only while its test procedure's conditions hold (rule R24 c). -/
def inTestProcedure (m : Msr) (pre : Bool) (k : Result) : Result :=
  if pre then k else .refused (.normalOperation m)

/-! ### Parity (rules R284, R287) -/

/-- `ParityError()`: PES set, IERR# asserted, and shutdown if NS = 0 (rule R287). -/
def parityError (s : State) : State :=
  let reported := (s.withParity { s.parity with pes := true }).withTrace (.ierr :: s.trace)
  if s.parity.ns then reported else reported.withRun .shutdown

/-- A granule of a data cache line that its writeback reads has bad parity: the tag or any byte (rules R66, R284). -/
def writebackBad (l : DataLine) : Bool := l.badTag || l.badByte.toList.any (· != 0)

/-- A read that finds bad parity reports it; with NS = 0 the machine is then in shutdown and the rest of the
instruction does not happen (rules R284, R287, R470; log 15). One report stands for all the bad granules of the read: rule
R206 says so of a testability read, and of normal operation it is the model's choice (DESIGN CHOICE, log 26). -/
def checkParity (bad : Bool) (s : State) (k : State → State) : State :=
  if bad then (if s.parity.ns then k (parityError s) else parityError s) else k s

/-! ### The bus -/

/-- `Writeback(L, set)`: the line goes to memory, is an output, and counts once in event 6 (rules R196, R368). -/
def writeback (l : DataLine) (set : BitVec 7) (s : State) : State :=
  let a := lineAddress s.cfg l.tag set
  ((s.withMem (writeLine s.mem a l.data)).withTrace (.memWrite a l.data :: s.trace)).withOccurred
    (s.occurred ++ [.writeback])

/-! ### Cache lines and LRU bits -/

def Caches.codeLine (c : Caches) (k : Nat) : CodeLine := Sparse.get CodeLine.empty c.icache k
def Caches.dataLine (c : Caches) (k : Nat) : DataLine := Sparse.get DataLine.empty c.dcache k
def Caches.codeLru (c : Caches) (set : BitVec 7) : BitVec 3 := Sparse.get 0 c.icacheLru set.toNat
def Caches.dataLru (c : Caches) (set : BitVec 7) : BitVec 3 := Sparse.get 0 c.dcacheLru set.toNat

def Caches.putCode (c : Caches) (k : Nat) (l : CodeLine) : Caches :=
  { c with icache := Sparse.put CodeLine.empty c.icache k l }

def Caches.putData (c : Caches) (k : Nat) (l : DataLine) : Caches :=
  { c with dcache := Sparse.put DataLine.empty c.dcache k l }

def Caches.putCodeLru (c : Caches) (set : BitVec 7) (x : BitVec 3) : Caches :=
  { c with icacheLru := Sparse.put 0 c.icacheLru set.toNat x }

def Caches.putDataLru (c : Caches) (set : BitVec 7) (x : BitVec 3) : Caches :=
  { c with dcacheLru := Sparse.put 0 c.dcacheLru set.toNat x }

/-- One data cache line written back if modified, then invalid (rules R110, R195, R196). -/
def invalidateDataLine (key : Nat) (set : BitVec 7) (s : State) : State :=
  let l := s.caches.dataLine key
  let t := if l.state = .modified then writeback l set s else s
  t.withCaches (s.caches.putData key { l with state := .invalid })

/-- Every code cache line invalid, other fields kept (rule R193, D23). -/
def Caches.flushCode (c : Caches) : Caches :=
  { c with icache := Sparse.mapAll CodeLine.empty (fun l => { l with valid := false }) c.icache }

/-- Every data cache line invalid, other fields kept (rule R194, D23). -/
def Caches.flushData (c : Caches) : Caches :=
  { c with dcache := Sparse.mapAll DataLine.empty (fun l => { l with state := .invalid }) c.dcache }

/-- The LRU bits of a variant's set: one on `P`, three on `PMMX` (rule R8). -/
def clipLru (v : Variant) (x : BitVec 3) : BitVec 3 :=
  match v with
  | .p => x &&& 1
  | .pmmx => x

/-- Every BTB entry invalid, other fields kept (rules R257, R260). -/
def flushBtb (b : Sparse BtbEntry) : Sparse BtbEntry :=
  Sparse.mapAll BtbEntry.empty (fun e => { e with valid := false }) b

/-- Every entry of one TLB invalid, other fields kept (rule R230). -/
def flushTlb (t : Sparse TlbEntry) : Sparse TlbEntry :=
  Sparse.mapAll TlbEntry.empty (fun e => { e with v := false }) t

/-- Every entry of every TLB invalid (rule R230). -/
def Tlbs.flush (t : Tlbs) : Tlbs :=
  { t with code := flushTlb t.code, data := flushTlb t.data, data4M := flushTlb t.data4M }

end Sys2Proof.Machine
end

