-- ==== Sys2Proof/Machine/BtbTest.lean ====
section
/-!
DEFINITION. The commands of TR11 (rules R252 to R258, R263): what WRMSR of a TR11 value does, with the fields of the
value as operands.
-/

namespace Sys2Proof.Machine

/-- The operands of a TR11 command fit the variant: on `P` the control value has two bits and the branch type and
bank bits are reserved; on `PMMX` the set has four bits (rules R43, R44, R258). -/
def tr11Operands (f : Tr11) (s : State) (k : Result) : Result :=
  match s.cfg.variant with
  | .p => if f.btype = 0 ∧ f.bank = 0 ∧ f.control.getLsbD 2 = false then k else .refused (.reservedBits .tr11)
  | .pmmx => if f.set.toNat < Variant.btbSets .pmmx then k else .refused .notOnVariant

/-- The value is stored in TR11 (rules R43, R263). -/
def State.latchTr11 (s : State) (f : Tr11) : State :=
  s.withBtbTest { s.btbTest with tr11 := lowHalf (packTr11 s.cfg.variant f) }

/-- The checks of a write to TR11 (rules R162, R167, R251, R252), then its command on the state with the value
stored. -/
def tr11Access (f : Tr11) (command : State → Result) (s : State) : Result :=
  privileged s (tr11Operands f s (inTestProcedure .tr11 (btbTestPre s) (command (s.latchTr11 f))))

/-- The entry at a set, way and bank; on `P` there is no bank (rule R65). -/
def State.btbEntry (s : State) (set : BitVec 6) (way bank : BitVec 2) : BtbEntry :=
  Sparse.get BtbEntry.empty s.btb (btbKey s.cfg.variant set way bank)

/-- The entry stored at a set, way and bank. -/
def State.putBtbEntry (s : State) (set : BitVec 6) (way bank : BitVec 2) (e : BtbEntry) : State :=
  s.withBtb (Sparse.put BtbEntry.empty s.btb (btbKey s.cfg.variant set way bank) e)

/-- The other ways of the set and bank that hold the tag of TR9 (rule R254). -/
def sameTagWays (f : Tr11) (s : State) : List (BitVec 2) :=
  [0, 1, 2, 3].filter fun w => w != f.way && (s.btbEntry f.set w f.bank).tag == tr9Tag s.cfg.variant s.btbTest.tr9

/-- Those of them that are valid. -/
def validSameTagWays (f : Tr11) (s : State) : List (BitVec 2) :=
  (sameTagWays f s).filter fun w => (s.btbEntry f.set w f.bank).valid

/-- The ways one of which a write on `PMMX` goes to (rule R254, D28; log 25): the addressed one if no other way holds the
tag, a valid same-tag one if there is one, else any of the addressed and the same-tag ones. -/
def writeWays (f : Tr11) (s : State) : List (BitVec 2) :=
  if sameTagWays f s = [] then [f.way]
  else if validSameTagWays f s = [] then f.way :: sameTagWays f s
  else validSameTagWays f s

/-- The entry a write on `PMMX` stores (rules R41, R254). -/
def btbEntryPmmx (f : Tr11) (s : State) : BtbEntry where
  tag := tr9Tag .pmmx s.btbTest.tr9
  history := tr9History .pmmx s.btbTest.tr9
  target := s.btbTest.tr10
  valid := s.btbTest.tr9.getLsbD 5
  offset := s.btbTest.tr9.extractLsb' 6 2
  prediction := s.btbTest.tr9.getLsbD 4
  btype := f.btype

/-- The entry a write on `P` stores: it is valid (rule R254, D28); `old` keeps the fields `P` does not have. -/
def btbEntryP (old : BtbEntry) (s : State) : BtbEntry :=
  { old with
    tag := tr9Tag .p s.btbTest.tr9
    history := tr9History .p s.btbTest.tr9
    target := s.btbTest.tr10
    valid := true }

/-- A BTB entry stored on `PMMX` by a testability write. -/
def btbStore (f : Tr11) (s : State) (way : BitVec 2) : State :=
  (s.putBtbEntry f.set way f.bank (btbEntryPmmx f s)).advance 2

/-- A testability write (rule R254). A free value picks among several destinations. -/
def btbWrite (f : Tr11) (s : State) : Result :=
  match s.cfg.variant with
  | .pmmx =>
    match writeWays f s with
    | [w] => .next (btbStore f s w)
    | ways => .next ((btbStore f s (ways.getD ((s.free 0).toNat % ways.length) f.way)).useDraws 1)
  | .p =>
    if validSameTagWays f s = [] then
      .next ((s.putBtbEntry f.set f.way f.bank (btbEntryP (s.btbEntry f.set f.way f.bank) s)).advance 2)
    else .refused .btbDuplicateTag

/-- TR9, TR10 and TR11 after a testability read data (rule R255). -/
def btbReadData (f : Tr11) (s : State) : State :=
  let e := s.btbEntry f.set f.way f.bank
  (s.withBtbTest
    (match s.cfg.variant with
     | .pmmx => { tr9 := tr9AfterReadData s.btbTest.tr9 e, tr10 := e.target
                  tr11 := tr11WithType s.btbTest.tr11 e.btype }
     | .p => { s.btbTest with tr9 := tr9AfterReadP s.btbTest.tr9 e, tr10 := e.target })).advance 2

/-- TR9 after a testability read TAG (rule R256). -/
def btbReadTag (f : Tr11) (s : State) : State :=
  (s.withBtbTest
    { s.btbTest with tr9 := tr9AfterReadTag s.btbTest.tr9 (s.btbEntry f.set f.way f.bank) }).advance 2

/-- TR11 normal operation: the value is latched (rule R253). -/
def execTr11Normal (btype : BitVec 2) (set : BitVec 6) (bank way : BitVec 2) (s : State) : Result :=
  tr11Access ⟨0, set, bank, way, btype⟩ (fun t => .next (t.advance 2)) s

/-- TR11 testability write data (rule R254). -/
def execTr11Write (btype : BitVec 2) (set : BitVec 6) (bank way : BitVec 2) (s : State) : Result :=
  tr11Access ⟨1, set, bank, way, btype⟩ (btbWrite ⟨1, set, bank, way, btype⟩) s

/-- TR11 testability read data (rule R255). -/
def execTr11ReadData (btype : BitVec 2) (set : BitVec 6) (bank way : BitVec 2) (s : State) : Result :=
  tr11Access ⟨2, set, bank, way, btype⟩ (fun t => .next (btbReadData ⟨2, set, bank, way, btype⟩ t)) s

/-- TR11 testability BTB flush: every valid bit clear (rule R257). -/
def execTr11Flush (btype : BitVec 2) (set : BitVec 6) (bank way : BitVec 2) (s : State) : Result :=
  tr11Access ⟨3, set, bank, way, btype⟩ (fun t => .next ((t.withBtb (flushBtb t.btb)).advance 2)) s

/-- TR11 testability read TAG, `PMMX` only (rule R256). -/
def execTr11ReadTag (btype : BitVec 2) (set : BitVec 6) (bank way : BitVec 2) (s : State) : Result :=
  tr11Access ⟨5, set, bank, way, btype⟩ (fun t => .next (btbReadTag ⟨5, set, bank, way, btype⟩ t)) s

/-- TR11 with the reserved control value 100: no meaning (rule R258). -/
def execTr11Reserved4 (btype : BitVec 2) (set : BitVec 6) (bank way : BitVec 2) (s : State) : Result :=
  tr11Access ⟨4, set, bank, way, btype⟩ (fun _ => .refused (.btbReservedControl 4)) s

/-- TR11 with the reserved control value 110: no meaning (rule R258). -/
def execTr11Reserved6 (btype : BitVec 2) (set : BitVec 6) (bank way : BitVec 2) (s : State) : Result :=
  tr11Access ⟨6, set, bank, way, btype⟩ (fun _ => .refused (.btbReservedControl 6)) s

/-- TR11 with the reserved control value 111: no meaning (rule R258). -/
def execTr11Reserved7 (btype : BitVec 2) (set : BitVec 6) (bank way : BitVec 2) (s : State) : Result :=
  tr11Access ⟨7, set, bank, way, btype⟩ (fun _ => .refused (.btbReservedControl 7)) s

end Sys2Proof.Machine
end

