-- ==== Sys2Proof/Machine/CacheTest.lean ====
section
/-!
DEFINITION. The commands of TR5 (rules R184, R188 to R197, R206): what WRMSR of a TR5 value does, with the fields of
the value as operands.
-/

namespace Sys2Proof.Machine

/-- The fields are latched in `TR5L` (rules R36, R188). -/
def State.latchTr5 (s : State) (f : Tr5) : State := s.withCacheTest { s.cacheTest with tr5 := f }

/-- The checks of a write to TR5 (rules R36, R162, R167, R181, R182), then its command on the state with the fields
latched. On `P` Entry[1] is the reserved bit TR5.19. -/
def tr5Access (f : Tr5) (command : State → State) (s : State) : Result :=
  privileged s
    (if entryFits s.cfg.variant f.entry then
      inTestProcedure .tr5 (cacheTestPre s) (.next (command (s.latchTr5 f)))
    else .refused (.reservedBits .tr5))

/-- The key of the line TR5 addresses. -/
def tr5Key (f : Tr5) (s : State) : Nat := lineKey f.set (cacheWay s.cfg.variant f.entry)

/-- The code cache line a testability write stores (rules R189, R283). -/
def codeLineToWrite (s : State) (old : CodeLine) : CodeLine where
  data := s.cacheTest.fill
  tag := s.cacheTest.tr4.tag
  valid := s.cacheTest.tr4.valid.getLsbD 0
  endbits := match s.cfg.variant with
    | .p => s.cacheTest.endbuf
    | .pmmx => old.endbits
  badTag := s.parity.it
  badData := s.parity.id

/-- Testability write, code cache (rule R189). -/
def writeCodeLine (f : Tr5) (s : State) : State :=
  (s.withCaches ((s.caches.putCode (tr5Key f s) (codeLineToWrite s (s.caches.codeLine (tr5Key f s)))).putCodeLru f.set
    (clipLru s.cfg.variant s.cacheTest.tr4.lru))).advance 2

/-- The data cache line a testability write stores (rules R190, R283). -/
def dataLineToWrite (f : Tr5) (s : State) : DataLine where
  data := s.cacheTest.fill
  tag := s.cacheTest.tr4.tag
  state := mesiOfBits s.cacheTest.tr4.valid
  wb := f.wb
  badTag := s.parity.dt
  badByte := Vector.replicate 8 (allBits s.parity.dd)

/-- Testability write, data cache (rule R190). -/
def writeDataLine (f : Tr5) (s : State) : State :=
  (s.withCaches ((s.caches.putData (tr5Key f s) (dataLineToWrite f s)).putDataLru f.set
    (clipLru s.cfg.variant s.cacheTest.tr4.lru))).advance 2

/-- A testability read of a code cache line finds bad parity: the tag or a group that covers the half holding the
portion is bad, or another group is bad and the free value says so (rule R206, D20; log 26). -/
def codeReadBad (l : CodeLine) (buffer : BitVec 3) (free : Bool) : Bool :=
  let low := l.badData.extractLsb' 0 2 != 0
  let high := l.badData.extractLsb' 2 2 != 0
  l.badTag || (if buffer.getLsbD 2 then high || (low && free) else low || (high && free))

/-- A testability read of a data cache line finds bad parity: the tag or a byte of the portion is bad, or another
byte is bad and the free value says so (rule R206, D20; log 26). -/
def dataReadBad (l : DataLine) (buffer : BitVec 3) (free : Bool) : Bool :=
  l.badTag || portion l.badByte buffer != 0 || (l.badByte.toList.any (· != 0) && free)

/-- TR2, TR3, TR4, the fill buffer and the LRU bits after a testability read of the code cache (rules R191, R192,
R199). Free values: 1 the second valid bit, 2 which LRU bits are delivered, 3 the new LRU bits, 4 to 11 the fill
buffer. -/
def deliverCodeLine (f : Tr5) (s : State) : State :=
  let l := s.caches.codeLine (tr5Key f s)
  let old := s.caches.codeLru f.set
  let new := clipLru s.cfg.variant (s.freeBits 3 3)
  let ct := s.cacheTest
  ((s.withCacheTest
    { ct with
      tr2 := match s.cfg.variant with
        | .p => portion l.endbits f.buffer
        | .pmmx => ct.tr2
      tr3 := portion l.data f.buffer
      tr4 := { tag := l.tag
               lru := if s.freeBool 2 then new else old
               valid := BitVec.ofBool (s.freeBool 1) ++ BitVec.ofBool l.valid }
      tr4UpperZero := true
      fill := s.freeLine 4 }).withCaches (s.caches.putCodeLru f.set new)).advance 2

/-- Testability read, code cache (rules R191, R206). Free value 0: a bad group outside the portion's half. -/
def readCodeLine (f : Tr5) (s : State) : State :=
  (checkParity (codeReadBad (s.caches.codeLine (tr5Key f s)) f.buffer (s.freeBool 0)) s (deliverCodeLine f)).useDraws 12

/-- TR3, TR4 and the fill buffer after a testability read of the data cache (rules R191 b, R192, R197). Free values 1
to 8: the fill buffer. -/
def deliverDataLine (f : Tr5) (s : State) : State :=
  let l := s.caches.dataLine (tr5Key f s)
  (s.withCacheTest
    { s.cacheTest with
      tr3 := portion l.data f.buffer
      tr4 := { tag := l.tag, lru := s.caches.dataLru f.set, valid := mesiBits l.state }
      tr4UpperZero := true
      fill := s.freeLine 1 }).advance 2

/-- Testability read, data cache (rules R197, R206). Free value 0: a bad byte outside the portion. -/
def readDataLine (f : Tr5) (s : State) : State :=
  (checkParity (dataReadBad (s.caches.dataLine (tr5Key f s)) f.buffer (s.freeBool 0)) s (deliverDataLine f)).useDraws 9

/-- The fill buffer after a flush command: eight free values (U9; log 21). -/
def State.looseFill (s : State) : State := (s.withCacheTest { s.cacheTest with fill := s.freeLine 0 }).useDraws 8

/-- TR5 normal operation: the fields are latched (rule R184). -/
def execTr5Normal (buffer : BitVec 3) (set : BitVec 7) (entry : BitVec 2) (cd wb : Bool) (s : State) : Result :=
  tr5Access ⟨0, buffer, set, entry, cd, wb⟩ (fun t => t.advance 2) s

/-- TR5 testability write, code cache (rule R189). -/
def execTr5WriteCode (buffer : BitVec 3) (set : BitVec 7) (entry : BitVec 2) (wb : Bool) (s : State) : Result :=
  tr5Access ⟨1, buffer, set, entry, false, wb⟩ (writeCodeLine ⟨1, buffer, set, entry, false, wb⟩) s

/-- TR5 testability write, data cache (rule R190). -/
def execTr5WriteData (buffer : BitVec 3) (set : BitVec 7) (entry : BitVec 2) (wb : Bool) (s : State) : Result :=
  tr5Access ⟨1, buffer, set, entry, true, wb⟩ (writeDataLine ⟨1, buffer, set, entry, true, wb⟩) s

/-- TR5 testability read, code cache (rule R191). -/
def execTr5ReadCode (buffer : BitVec 3) (set : BitVec 7) (entry : BitVec 2) (wb : Bool) (s : State) : Result :=
  tr5Access ⟨2, buffer, set, entry, false, wb⟩ (readCodeLine ⟨2, buffer, set, entry, false, wb⟩) s

/-- TR5 testability read, data cache (rule R197). -/
def execTr5ReadData (buffer : BitVec 3) (set : BitVec 7) (entry : BitVec 2) (wb : Bool) (s : State) : Result :=
  tr5Access ⟨2, buffer, set, entry, true, wb⟩ (readDataLine ⟨2, buffer, set, entry, true, wb⟩) s

/-- TR5 flush, code cache: every line invalid (rule R193), the fill buffer free (U9). -/
def execTr5FlushCode (buffer : BitVec 3) (set : BitVec 7) (entry : BitVec 2) (wb : Bool) (s : State) : Result :=
  tr5Access ⟨3, buffer, set, entry, false, wb⟩ (fun t => (t.withCaches t.caches.flushCode).looseFill.advance 2) s

/-- TR5 flush, data cache, whole: every line invalid, nothing written back (rule R194), the fill buffer free (U9). -/
def execTr5FlushDataAll (buffer : BitVec 3) (set : BitVec 7) (entry : BitVec 2) (s : State) : Result :=
  tr5Access ⟨3, buffer, set, entry, true, false⟩ (fun t => (t.withCaches t.caches.flushData).looseFill.advance 2) s

/-- TR5 flush, data cache, one line: written back if modified, then invalid (rules R195, R196), the fill buffer free
(U9). The writeback of a test command checks no parity (log 26). -/
def execTr5FlushDataLine (buffer : BitVec 3) (set : BitVec 7) (entry : BitVec 2) (s : State) : Result :=
  tr5Access ⟨3, buffer, set, entry, true, true⟩
    (fun t => (invalidateDataLine (tr5Key ⟨3, buffer, set, entry, true, true⟩ t) set t).looseFill.advance 2) s

end Sys2Proof.Machine
end

