-- ==== Sys2Proof/Machine/Events.lean ====
section
/-!
DEFINITION. Clocks, the time stamp counter, the event counters and the PM and BP pins (rules R320 to R338, R472), and the
performance monitoring events (rules R360 to R457).

`EVENT_SOURCE` is the opaque oracle `Config.eventSource`, bounded by the kind of the event (rule R361); the events
the model itself can count (instructions, writebacks, FLUSH# services, taken branches, clocks not halted) are
computed or added (log 8).
-/

namespace Sys2Proof.Machine

/-- The kind of an event (rule R361). -/
inductive EventKind where
  | occurrence
  | duration
  deriving DecidableEq, Repr

/-- On which counters a code names the event (rule R360). -/
inductive EventCounters where
  | both
  | only (i : Fin 2)
  deriving DecidableEq, Repr

/-- A row of Table 26-24. `pmmxOnly`: the event exists on `PMMX` only (rule R360). -/
structure EventRow where
  code : Nat
  counters : EventCounters
  kind : EventKind
  pmmxOnly : Bool
  name : String
  deriving DecidableEq, Repr

/-- Rows of Table 26-24, codes 0 to 15 (rule R457). -/
def eventRows0 : List EventRow :=
  [
    ⟨0, .both, .occurrence, false, "Data Read"⟩,
    ⟨1, .both, .occurrence, false, "Data Write"⟩,
    ⟨2, .both, .occurrence, false, "Data TLB Miss"⟩,
    ⟨3, .both, .occurrence, false, "Data Read Miss"⟩,
    ⟨4, .both, .occurrence, false, "Data Write Miss"⟩,
    ⟨5, .both, .occurrence, false, "Write (hit) to M- or E-state lines"⟩,
    ⟨6, .both, .occurrence, false, "Data Cache Lines Written Back"⟩,
    ⟨7, .both, .occurrence, false, "External Snoops"⟩,
    ⟨8, .both, .occurrence, false, "External Data Cache Snoop Hits"⟩,
    ⟨9, .both, .occurrence, false, "Memory Accesses in Both Pipes"⟩,
    ⟨10, .both, .occurrence, false, "Bank Conflicts"⟩,
    ⟨11, .both, .occurrence, false, "Misaligned Data memory or I/O References"⟩,
    ⟨12, .both, .occurrence, false, "Code Read"⟩,
    ⟨13, .both, .occurrence, false, "Code TLB Miss"⟩,
    ⟨14, .both, .occurrence, false, "Code Cache Miss"⟩,
    ⟨15, .both, .occurrence, false, "Any Segment Register Loaded"⟩
  ]

/-- Rows of Table 26-24, codes 18 to 35 (rule R457). -/
def eventRows1 : List EventRow :=
  [
    ⟨18, .both, .occurrence, false, "Branches"⟩,
    ⟨19, .both, .occurrence, false, "BTB Hits"⟩,
    ⟨20, .both, .occurrence, false, "Taken Branch or BTB hit"⟩,
    ⟨21, .both, .occurrence, false, "Pipeline Flushes"⟩,
    ⟨22, .both, .occurrence, false, "Instructions Executed"⟩,
    ⟨23, .both, .occurrence, false, "Instructions Executed in the v pipe e.g. parallelism/pairing"⟩,
    ⟨24, .both, .duration, false, "Clocks while a bus cycle is in progress (bus utilization)"⟩,
    ⟨25, .both, .duration, false, "Number of clocks stalled due to full write buffers"⟩,
    ⟨26, .both, .duration, false, "Pipeline stalled waiting for data memory read"⟩,
    ⟨27, .both, .duration, false, "Stall on write to an E- or M-state line"⟩,
    ⟨28, .both, .occurrence, false, "Locked Bus Cycle"⟩,
    ⟨29, .both, .occurrence, false, "I/O Read or Write Cycle"⟩,
    ⟨30, .both, .occurrence, false, "Non-Cacheable memory reads"⟩,
    ⟨31, .both, .duration, false, "Pipeline stalled because of an address generation interlock"⟩,
    ⟨34, .both, .occurrence, false, "FLOPs"⟩,
    ⟨35, .both, .occurrence, false, "Breakpoint match on DR0 Register"⟩
  ]

/-- Rows of Table 26-24, codes 36 to 46 (rule R457). -/
def eventRows2 : List EventRow :=
  [
    ⟨36, .both, .occurrence, false, "Breakpoint match on DR1 Register"⟩,
    ⟨37, .both, .occurrence, false, "Breakpoint match on DR2 Register"⟩,
    ⟨38, .both, .occurrence, false, "Breakpoint match on DR3 Register"⟩,
    ⟨39, .both, .occurrence, false, "Hardware Interrupts"⟩,
    ⟨40, .both, .occurrence, false, "Data Read or Data Write"⟩,
    ⟨41, .both, .occurrence, false, "Data Read Miss or Data Write Miss"⟩,
    ⟨42, .only 0, .duration, true, "Bus Ownership Latency"⟩,
    ⟨42, .only 1, .occurrence, true, "Bus Ownership Transfers"⟩,
    ⟨43, .only 0, .occurrence, true, "MMX instructions executed in u pipe"⟩,
    ⟨43, .only 1, .occurrence, true, "MMX instructions executed in v pipe"⟩,
    ⟨44, .only 0, .occurrence, true, "Cache M-State line sharing"⟩,
    ⟨44, .only 1, .occurrence, true, "Cache Line Sharing"⟩,
    ⟨45, .only 0, .occurrence, true, "EMMS instructions executed"⟩,
    ⟨45, .only 1, .occurrence, true, "Transition between MMX instructions and FP instructions"⟩,
    ⟨46, .only 0, .duration, true, "Bus Utilization Due to processor Activity"⟩,
    ⟨46, .only 1, .occurrence, true, "Writes to Non-Cacheable Memory"⟩
  ]

/-- Rows of Table 26-24, codes 47 to 54 (rule R457). -/
def eventRows3 : List EventRow :=
  [
    ⟨47, .only 0, .occurrence, true, "Saturating MMX instructions executed"⟩,
    ⟨47, .only 1, .occurrence, true, "Saturations performed"⟩,
    ⟨48, .only 0, .duration, true, "Number of Cycles Not in HLT State"⟩,
    ⟨48, .only 1, .duration, true, "Clocks stalled on Data cache TLB miss"⟩,
    ⟨49, .only 0, .occurrence, true, "MMX instruction data reads"⟩,
    ⟨49, .only 1, .occurrence, true, "MMX instructions data read misses"⟩,
    ⟨50, .only 0, .duration, true, "Floating Point Stalls"⟩,
    ⟨50, .only 1, .occurrence, true, "Taken Branches"⟩,
    ⟨51, .only 0, .occurrence, true, "D1 Starvation and FIFO is empty"⟩,
    ⟨51, .only 1, .occurrence, true, "D1 Starvation and only one instruction in FIFO"⟩,
    ⟨52, .only 0, .occurrence, true, "MMX instruction data writes"⟩,
    ⟨52, .only 1, .occurrence, true, "MMX instruction data write misses"⟩,
    ⟨53, .only 0, .occurrence, true, "Pipeline flushed due to wrong branch prediction"⟩,
    ⟨53, .only 1, .occurrence, true, "Pipeline flushes due to wrong branch predictions resolved in WB-stage"⟩,
    ⟨54, .only 0, .occurrence, true, "Misaligned data memory references on MMX instruction"⟩,
    ⟨54, .only 1, .duration, true, "Pipeline stalled waiting for MMX instruction data memory read"⟩
  ]

/-- Rows of Table 26-24, codes 55 to 59 (rule R457). -/
def eventRows4 : List EventRow :=
  [
    ⟨55, .only 0, .occurrence, true, "Returns Predicted Incorrectly or not predicted at all"⟩,
    ⟨55, .only 1, .occurrence, true, "Returns Predicted (Correctly and Incorrectly)"⟩,
    ⟨56, .only 0, .duration, true, "MMX multiply unit interlock"⟩,
    ⟨56, .only 1, .duration, true, "MOVD/MOVQ store stall due to previous operation"⟩,
    ⟨57, .only 0, .occurrence, true, "Returns"⟩,
    ⟨58, .only 0, .occurrence, true, "BTB false entries"⟩,
    ⟨58, .only 1, .occurrence, true, "BTB miss prediction on a Not-Taken branch"⟩,
    ⟨59, .only 0, .duration, true, "Number of clocks stalled due to full write buffers while executing MMX instructions"⟩,
    ⟨59, .only 1, .duration, true, "Stall on MMX instruction write to E- or M-state line"⟩
  ]

/-- Table 26-24 (rules R362 to R439, R457). -/
def eventRows : List EventRow := eventRows0 ++ eventRows1 ++ eventRows2 ++ eventRows3 ++ eventRows4

/-- The row is countable on counter `i` of the variant. -/
def EventRow.on (r : EventRow) (v : Variant) (i : Fin 2) : Bool :=
  (match r.counters with
   | .both => true
   | .only j => decide (i = j)) && (!r.pmmxOnly || decide (v = .pmmx))

/-- The event that code `code` selects on counter `i`; none for a reserved or unlisted code and for codes 42 to 59 on
`P` (rules R360, R455, R456). -/
def eventOf (v : Variant) (code : Nat) (i : Fin 2) : Option EventRow :=
  eventRows.find? fun r => decide (r.code = code) && r.on v i

/-- What a clock sees of the machine. It does not change while clocks pass without an effect of an instruction. -/
structure ClockEnv where
  cfg : Config
  cpl : Fin 4
  halted : Bool
  /-- TR12.SE -/
  se : Bool
  dr : Fin 4 → Word
  pins : PinFunction

/-- The clock's view of a state. -/
def clockEnv (s : State) : ClockEnv where
  cfg := s.cfg
  cpl := s.core.cpl
  halted := decide (s.run = .halted)
  se := s.se
  dr := fun i => if i = 0 then s.core.dr0 else if i = 1 then s.core.dr1 else if i = 2 then s.core.dr2 else s.core.dr3
  pins := s.pins

/-- An occurrence counts in the event of code `code` on counter `i` (rules R368, R380, R382, R384, R421, R469, R473). The
service of FLUSH# is a taken branch (rule R380). A taken branch counts in event 22 by itself, also one that belongs to a
change of CPL which counts too (DESIGN CHOICE, log 49). -/
def countsIn (code : Nat) (i : Fin 2) : Occurrence → Bool
  | .instruction => decide (code = 22)
  | .writeback => decide (code = 6)
  | .flushService | .takenBranch =>
    decide (code = 18) || decide (code = 20) || decide (code = 22) || (decide (code = 50) && decide (i = 1))

/-- The bound of `EVENT_SOURCE` in one clock: 2 for an occurrence event, 1 for a duration event, and 2 for event 31
(rules R361, R393). -/
def eventBound (r : EventRow) : Nat :=
  match r.kind with
  | .occurrence => 2
  | .duration => if r.code = 31 then 2 else 1

/-- How often a clock matched breakpoint register DR0 to DR3. What a match depends on besides the address is open
(rules R397 to R400, N13), so the number is free for each register and variant, equal addresses or not (log 8). -/
def breakpointMatches (env : ClockEnv) (clock : Nat) (k : Fin 4) : Nat :=
  Config.breakpointSource env.cfg.variant k (env.dr k) clock % 3

/-- The oracle's number for an event in a clock, within its bound. A code both counters share names one event, so
its number does not depend on the counter. Events 40 and 41 are the sums of 0 and 1, and of 3 and 4 (rules R402,
R403); events 35 to 38 look at DR0 to DR3 (rules R397 to R400). -/
def oracleCount (env : ClockEnv) (clock : Nat) (i : Fin 2) (r : EventRow) : Nat :=
  let source (code : Nat) : Nat :=
    Config.eventSource env.cfg.variant code (if r.counters = .both then 0 else i.val) clock
  let sum (code : Nat) : Nat := source code % 3
  let part (code partOf : Nat) : Nat := source code % (sum partOf + 1)
  if r.code = 0 then part 0 40
  else if r.code = 1 then sum 40 - part 0 40
  else if r.code = 40 then sum 40
  else if r.code = 3 then part 3 41
  else if r.code = 4 then sum 41 - part 3 41
  else if r.code = 41 then sum 41
  else if r.code = 35 then breakpointMatches env clock 0
  else if r.code = 36 then breakpointMatches env clock 1
  else if r.code = 37 then breakpointMatches env clock 2
  else if r.code = 38 then breakpointMatches env clock 3
  else source r.code % (eventBound r + 1)

/-- Whether what is known of a clock counts in an event: 0 or 1. -/
def seenIn (known : Option Occurrence) (code : Nat) (i : Fin 2) : Nat :=
  match known with
  | some o => boolNat (countsIn code i o)
  | none => 0

/-- The taken branches of a clock: the known ones and the oracle's, at most 2 (rules R380, R421; log 8). The oracle's have no address
and send no branch trace message while TR12.TR = 1: only the turns `takenBranch` do (rule R303; DESIGN CHOICE, log 8). -/
def takenBranches (env : ClockEnv) (known : Option Occurrence) (clock : Nat) : Nat :=
  min 2 (seenIn known 50 1 + Config.eventSource env.cfg.variant 50 1 clock % 3)

/-- The BTB hits of a clock (rule R381). -/
def btbHits (env : ClockEnv) (clock : Nat) : Nat := Config.eventSource env.cfg.variant 19 0 clock % 3

/-- A free number of a clock from `lo` to `hi`, where `lo` is at most `hi`. -/
def freeBetween (env : ClockEnv) (clock code lo hi : Nat) : Nat :=
  lo + Config.eventSource env.cfg.variant code 0 clock % (hi - lo + 1)

/-- `EVENT_SOURCE` of rule R335 in one clock, given what the model knows to have occurred in it. Event 22 is counted
by the model alone (rule R384), event 23 is zero while TR12.SE = 1 (rule R385), event 48/0 is one while not halted
(rules R416, R477). Taken branches are branches (rule R380). Event 20 is the logical OR of taken branches and BTB hits
(rule R382): in a clock at least the larger of the two numbers and at most their sum (log 8). -/
def eventCount (env : ClockEnv) (known : Option Occurrence) (clock : Nat) (i : Fin 2) (r : EventRow) : Nat :=
  let taken := takenBranches env known clock
  let hits := btbHits env clock
  if r.code = 22 then seenIn known 22 i
  else if r.code = 23 ∧ env.se then 0
  else if r.code = 48 ∧ i = 0 then boolNat (!env.halted)
  else if r.code = 6 then min 2 (seenIn known 6 i + oracleCount env clock i r)
  else if r.code = 18 then freeBetween env clock 18 taken 2
  else if r.code = 19 then hits
  else if r.code = 20 then freeBetween env clock 20 (max taken hits) (min 2 (taken + hits))
  else if r.code = 50 ∧ i = 1 then taken
  else oracleCount env clock i r

/-- A counter after one clock, with `INC` and `OVF` (rules R334, R335). While CC selects event counting (001, 010 or
011) a code that names no event makes all of it free, at every CPL (rules R455, R456; log 9). -/
def tickCounter (env : ClockEnv) (known : Option Occurrence) (p : Perf) (i : Fin 2) (ctr : BitVec 40) :
    BitVec 40 × Bool × Bool :=
  let cc := cesrCc env.cfg p.cesr i
  let enabled := counterEnabled cc env.cpl
  let add (inc : Nat) : BitVec 40 × Bool × Bool :=
    (BitVec.ofNat 40 (ctr.toNat + inc), decide (0 < inc), decide (2 ^ 40 ≤ ctr.toNat + inc))
  if cc.getLsbD 2 = true ∨ cc = 0 then
    if enabled then add 1 else (ctr, false, false)
  else
    match eventOf env.cfg.variant (cesrEs env.cfg p.cesr i) i with
    | some r => if enabled then add (eventCount env known p.clock i r) else (ctr, false, false)
    | none => (Config.reservedCount i.val p.clock, Config.reservedSignals i.val p.clock)

/-- The signal that goes to a PM pin (rule R337): `INC` if PC = 0, `OVF` if PC = 1. -/
def pinSignal (pc inc ovf : Bool) : Bool := if pc then ovf else inc

/-- One clock: TSC, the counters and the pins (rules R322, R335, R337). A PM pin shows the signal of `PM_PIN_LAG` clocks
before; a BP pin, and a PM pin in its breakpoint function, shows whether its breakpoint register was matched in the
clock (rules R338, R397, R472; log 33). -/
def tick (env : ClockEnv) (known : Option Occurrence) (p : Perf) : Perf :=
  let c0 := tickCounter env known p 0 p.ctr0
  let c1 := tickCounter env known p 1 p.ctr1
  let pipe := p.pipe ++
    [(pinSignal (cesrPc env.cfg p.cesr 0) c0.2.1 c0.2.2, pinSignal (cesrPc env.cfg p.cesr 1) c1.2.1 c1.2.2)]
  let late := decide (env.cfg.pmPinLag < pipe.length)
  let matched (k : Fin 4) : Bool := decide (0 < breakpointMatches env p.clock k)
  let shown : Bool × Bool := match env.pins with
    | .performanceMonitoring => if late then pipe.headD (false, false) else (false, false)
    | .breakpoint => (matched 0, matched 1)
  { tsc := p.tsc + 1
    cesr := p.cesr
    ctr0 := c0.1
    ctr1 := c1.1
    inc0 := c0.2.1
    inc1 := c1.2.1
    ovf0 := c0.2.2
    ovf1 := c1.2.2
    pipe := if late then pipe.tail else pipe
    pm0 := shown.1
    pm1 := shown.2
    bp2 := matched 2
    bp3 := matched 3
    clock := p.clock + 1 }

/-- One clock for every element, with what is known to occur in it. -/
def ticks (env : ClockEnv) (known : List (Option Occurrence)) (p : Perf) : Perf :=
  known.foldl (fun q o => tick env o q) p

/-- Clocks pass: one for each occurrence, then `quiet` more. Nothing but the counters and pins changes. -/
def State.passClocks (s : State) (known : List Occurrence) (quiet : Nat) : State :=
  s.withPerf (ticks (clockEnv s) (known.map some ++ List.replicate quiet none) s.perf)

/-- The pending occurrences are counted and `quiet` more clocks pass. -/
def State.drainClocks (s : State) (quiet : Nat) : State :=
  (s.passClocks s.occurred quiet).withOccurred []

end Sys2Proof.Machine
end

