-- ==== Sys2Proof/Machine/TlbTest.lean ====
section
/-!
DEFINITION. The commands of TR6 (rules R224 to R228, R234 to R236): what WRMSR of a TR6 value does, with the fields of
the value as operands, and the record of a TLB test sequence (rule R222; log 13).
-/

namespace Sys2Proof.Machine

/-- The array of a TLB (rules R63, R64). -/
def Tlbs.array (t : Tlbs) : TlbName → Sparse TlbEntry
  | .code => t.code
  | .data4K => t.data
  | .data4M => t.data4M

/-- The LRU bits of a TLB (`P`). -/
def Tlbs.lru (t : Tlbs) : TlbName → Sparse (BitVec 3)
  | .code => t.codeLru
  | .data4K => t.dataLru
  | .data4M => t.data4MLru

/-- The entry of a TLB at a key. -/
def Tlbs.entry (t : Tlbs) (n : TlbName) (key : Nat) : TlbEntry := Sparse.get TlbEntry.empty (t.array n) key

/-- One TLB entry stored. -/
def Tlbs.putEntry (t : Tlbs) (n : TlbName) (key : Nat) (e : TlbEntry) : Tlbs :=
  match n with
  | .code => { t with code := Sparse.put TlbEntry.empty t.code key e }
  | .data4K => { t with data := Sparse.put TlbEntry.empty t.data key e }
  | .data4M => { t with data4M := Sparse.put TlbEntry.empty t.data4M key e }

/-- The LRU bits of one set stored. -/
def Tlbs.putLru (t : Tlbs) (n : TlbName) (set : Nat) (x : BitVec 3) : Tlbs :=
  match n with
  | .code => { t with codeLru := Sparse.put 0 t.codeLru set x }
  | .data4K => { t with dataLru := Sparse.put 0 t.dataLru set x }
  | .data4M => { t with data4MLru := Sparse.put 0 t.data4MLru set x }

/-- The data TLB a page size selects: on `P` one TLB for each size, on `PMMX` one for both (rules R64, R234). -/
def dataTlb (v : Variant) (ps : Bool) : TlbName :=
  match v with
  | .p => if ps then .data4M else .data4K
  | .pmmx => .data4K

/-- How many entries a TLB of `PMMX` has (rules R63, R64). -/
def tlbEntries : TlbName → Nat
  | .code => 32
  | _ => 64

/-- The key the entry pointer of TR7 selects: on `P` its two bits are the way in the set of the linear page; on `PMMX`
it is the entry number, for the code TLB its lower five bits (rule R234). -/
def tlbKey (v : Variant) (n : TlbName) (la : BitVec 20) (entry : BitVec 6) : Nat :=
  match v with
  | .p => tlbSet n la * 4 + entry.toNat % 4
  | .pmmx => entry.toNat % tlbEntries n

/-- A test command wrote an entry: a sequence is open and the entry is under test (rule R222; log 13). -/
def TlbSequence.test (q : TlbSequence) (n : TlbName) (key : Nat) : TlbSequence :=
  { q with active := true, tested := q.tested.insert (n, key) }

/-- Normal operation filled a TLB: an open sequence is broken (rule R222, item 4; log 13). -/
def TlbSequence.fill (q : TlbSequence) : TlbSequence := { q with broken := q.broken || q.active }

/-- Normal operation used entries of a TLB: the sequence is broken if one of them is under test (rule R222, item 2;
D25; log 13). -/
def TlbSequence.use (q : TlbSequence) (n : TlbName) (keys : List Nat) : TlbSequence :=
  { q with broken := q.broken || keys.any fun k => q.tested.contains (n, k) }

/-- A TLB write: the entry stored and, on `P`, the LRU bits of its set (rules R224, R225, D24). -/
def tlbWrite (n : TlbName) (la : BitVec 20) (e : TlbEntry) (s : State) : State :=
  let tr7 := s.tlbTest.tr7
  let key := tlbKey s.cfg.variant n la tr7.entry
  let t := s.tlbs.putEntry n key e
  (s.withTlbs (match s.cfg.variant with
    | .p => t.putLru n (tlbSet n la) tr7.lru
    | .pmmx => t)).withTlbSequence (s.tlbSequence.test n key)

/-- `Match(e, la)` (rule R235); a code TLB entry is always compared on bits 31:12. -/
def tlbMatch (n : TlbName) (e : TlbEntry) (la : BitVec 20) : Bool :=
  e.v && (if n ≠ .code ∧ e.ps then e.lpn.extractLsb' 10 10 == la.extractLsb' 10 10 else e.lpn == la)

/-- The keys a search of a TLB looks at: all entries (rules R226, R227, R234), but on `P` in the code TLB the four ways of
the set of the linear page (rule R226). -/
def tlbCandidates (v : Variant) (n : TlbName) (la : BitVec 20) : List Nat :=
  match v, n with
  | .p, .code => (List.range 4).map (tlbSet .code la * 4 + ·)
  | .p, n => List.range (tlbSets n * 4)
  | .pmmx, n => List.range (tlbEntries n)

/-- The keys of the entries that answer a linear page. -/
def tlbMatches (v : Variant) (t : Tlbs) (n : TlbName) (la : BitVec 20) : List Nat :=
  (tlbCandidates v n la).filter fun k => tlbMatch n (t.entry n k) la

/-- What a TLB read finds. -/
inductive TlbSearch where
  | miss
  | hit (n : TlbName) (key : Nat)
  /-- two entries of one TLB match -/
  | double
  deriving DecidableEq, Repr

/-- The outcome of a search in one TLB. -/
def searchOf (n : TlbName) : List Nat → TlbSearch
  | [] => .miss
  | [k] => .hit n k
  | _ => .double

/-- The search of the code TLB (rule R226). -/
def searchCode (v : Variant) (t : Tlbs) (la : BitVec 20) : TlbSearch := searchOf .code (tlbMatches v t .code la)

/-- The search of the data TLB or TLBs: on `P` the 4-Mbyte page wins (rule R227). -/
def searchData (v : Variant) (t : Tlbs) (la : BitVec 20) : TlbSearch :=
  match v with
  | .pmmx => searchOf .data4K (tlbMatches v t .data4K la)
  | .p =>
    match searchOf .data4K (tlbMatches v t .data4K la), searchOf .data4M (tlbMatches v t .data4M la) with
    | .double, _ => .double
    | _, .double => .double
    | _, .hit n k => .hit n k
    | r, .miss => r

/-- The entry pointer bits of a variant (rule R8). -/
def clipEntry (v : Variant) (x : BitVec 6) : BitVec 6 :=
  match v with
  | .p => x &&& 3
  | .pmmx => x

/-- TR7 after a read that misses: H = 0, the rest free (rules R226, R227, D26). -/
def tr7AfterMiss (s : State) : Tr7 where
  pa := s.freeBits 0 20
  pcd := s.freeBool 1
  pwt := s.freeBool 2
  lru := match s.cfg.variant with
    | .p => s.freeBits 4 3
    | .pmmx => s.tlbTest.tr7.lru
  h := false
  entry := clipEntry s.cfg.variant (s.freeBits 3 6)

/-- TR7 after a read that hits the entry at `key`: its way on `P`, its number on `PMMX`; the LRU bits before the read
(rules R226, R227). -/
def tr7AfterHit (n : TlbName) (key : Nat) (s : State) : Tr7 :=
  let e := s.tlbs.entry n key
  { pa := e.ppn
    pcd := e.pcd
    pwt := e.pwt
    lru := match s.cfg.variant with
      | .p => Sparse.get 0 (s.tlbs.lru n) (key / 4)
      | .pmmx => s.tlbTest.tr7.lru
    h := true
    entry := match s.cfg.variant with
      | .p => BitVec.ofNat 6 (key % 4)
      | .pmmx => BitVec.ofNat 6 key }

/-- The TLBs after a read that hits: on `P` the LRU bits of the set are free (rule R226, N7). -/
def tlbsAfterHit (n : TlbName) (key : Nat) (s : State) : Tlbs :=
  match s.cfg.variant with
  | .p => s.tlbs.putLru n (key / 4) (s.freeBits 4 3)
  | .pmmx => s.tlbs

/-- TR6 after a read that misses: the status bits free, the linear address kept (rules R226, R227, D26). -/
def tr6AfterMiss (f : Tr6) (s : State) : Tr6 :=
  { f with v := s.freeBool 5, u := s.freeBool 6, w := s.freeBool 7, d := s.freeBool 8, ps := s.freeBool 9 }

/-- TR6 after a code TLB read that hits `e`: W, D and PS free (rule R226). -/
def tr6AfterCodeHit (f : Tr6) (e : TlbEntry) (s : State) : Tr6 :=
  { f with v := e.v, u := e.u, w := s.freeBool 7, d := s.freeBool 8, ps := s.freeBool 9 }

/-- TR6 after a data TLB read that hits `e` (rule R227). -/
def tr6AfterDataHit (f : Tr6) (e : TlbEntry) : Tr6 :=
  { f with v := e.v, u := e.u, w := e.w, d := e.d, ps := e.ps }

/-- The end of a TLB read. -/
def tlbReadDone (tr6 : Tr6) (tr7 : Tr7) (tlbs : Tlbs) (s : State) : State :=
  ((s.withTlbTest ⟨tr6, tr7⟩).withTlbs tlbs).advance 2

/-- A TLB read (rules R226, R227): a hit checks the parity of the entry (rule R236), two matches in one TLB have no
meaning. Ten free values are used. -/
def tlbRead (found : TlbSearch) (onMiss : State → Tr6) (onHit : TlbEntry → State → Tr6) (s : State) : Result :=
  match found with
  | .double => .refused .tlbDoubleMatch
  | .miss => .next ((tlbReadDone (onMiss s) (tr7AfterMiss s) s.tlbs s).useDraws 10)
  | .hit n key =>
    let e := s.tlbs.entry n key
    .next ((checkParity (e.badTag || e.badData) s fun t =>
      tlbReadDone (onHit e t) (tr7AfterHit n key t) (tlbsAfterHit n key t) t).useDraws 10)

/-- The checks of a write to TR6 (rules R162, R167, R221, R222), then its command on the state with the fields stored in
TR6 (rule R228). -/
def tr6Access (f : Tr6) (command : State → Result) (s : State) : Result :=
  privileged s
    (inTestProcedure .tr6 (tlbTestPre s) (command (s.withTlbTest { s.tlbTest with tr6 := f })))

/-- A TLB write needs TR7.H = 1 (rules R224, R225). -/
def hitBitSet (s : State) (k : Result) : Result := if s.tlbTest.tr7.h then k else .refused .tlbHitBitClear

/-- The code TLB entry of TR6 and TR7 (rules R224, R283). -/
def codeEntry (f : Tr6) (s : State) : TlbEntry where
  v := f.v
  lpn := f.la
  ps := false
  d := false
  u := f.u
  w := false
  ppn := s.tlbTest.tr7.pa
  pcd := s.tlbTest.tr7.pcd
  pwt := s.tlbTest.tr7.pwt
  badTag := s.parity.itt
  badData := s.parity.itd

/-- The data TLB entry of TR6 and TR7 (rules R225, R283). -/
def dataEntry (f : Tr6) (s : State) : TlbEntry where
  v := f.v
  lpn := f.la
  ps := f.ps
  d := f.d
  u := f.u
  w := f.w
  ppn := s.tlbTest.tr7.pa
  pcd := s.tlbTest.tr7.pcd
  pwt := s.tlbTest.tr7.pwt
  badTag := s.parity.dtt
  badData := s.parity.dtd

/-- TR6 TLB write, code TLB (rule R224). -/
def execTr6WriteCode (la : BitVec 20) (v d u w ps : Bool) (s : State) : Result :=
  tr6Access ⟨la, v, d, u, w, ps, false, false⟩
    (fun t => hitBitSet t
      (.next ((tlbWrite .code la (codeEntry ⟨la, v, d, u, w, ps, false, false⟩ t) t).advance 2))) s

/-- TR6 TLB write, data TLB (rule R225). -/
def execTr6WriteData (la : BitVec 20) (v d u w ps : Bool) (s : State) : Result :=
  tr6Access ⟨la, v, d, u, w, ps, true, false⟩
    (fun t => hitBitSet t
      (.next ((tlbWrite (dataTlb t.cfg.variant ps) la (dataEntry ⟨la, v, d, u, w, ps, true, false⟩ t) t).advance 2))) s

/-- TR6 TLB read, code TLB: TR6[31:12] is zero after it (rule R226). -/
def execTr6ReadCode (la : BitVec 20) (v d u w ps : Bool) (s : State) : Result :=
  tr6Access ⟨la, v, d, u, w, ps, false, true⟩
    (fun t => tlbRead (searchCode t.cfg.variant t.tlbs la) (tr6AfterMiss ⟨0, v, d, u, w, ps, false, true⟩)
      (tr6AfterCodeHit ⟨0, v, d, u, w, ps, false, true⟩) t) s

/-- TR6 TLB read, data TLB (rule R227). -/
def execTr6ReadData (la : BitVec 20) (v d u w ps : Bool) (s : State) : Result :=
  tr6Access ⟨la, v, d, u, w, ps, true, true⟩
    (fun t => tlbRead (searchData t.cfg.variant t.tlbs la) (tr6AfterMiss ⟨la, v, d, u, w, ps, true, true⟩)
      (fun e _ => tr6AfterDataHit ⟨la, v, d, u, w, ps, true, true⟩ e) t) s

end Sys2Proof.Machine
end

