-- ==== Sys2Proof/Machine/Agents.lean ====
section
/-!
DEFINITION. The agents other than the core (rule R14): the pins RESET and FLUSH#, the clock, the machine check input
and the background activity, as the rules that name it bound it (D14; log 42). And what a step does around the
effect of an instruction: fetching and decoding its bytes, the microcode parity check, and the clocks.
-/

namespace Sys2Proof.Machine

/-! ### Whose turn it is -/

/-- The turn of the next step: the head of the agenda, or, with an empty agenda, the core's (rule R14; log 17). -/
def State.nextTurn (s : State) : Turn := s.agenda.headD .core

/-- The state with the turn at the head of the agenda taken. -/
def State.turnTaken (s : State) : State := s.withAgenda s.agenda.tail

/-! ### Around a turn -/

/-- The instruction at the instruction pointer: its bytes are fetched from code memory in increasing address order
(rule R102 c, D1). -/
def decodeAt (s : State) : Decoded := decodeBytes s.cfg.variant (fetchBytes s.code s.core.eip.toNat 5)

/-- The microcode parity check, evaluated at the start of each step but RESET's (rule R286; log 27): the pending bad read
may happen now. -/
def microcodeCheck (s : State) : State :=
  if s.parity.mcBadPending then
    (if Config.microcodeRead s.draws then parityError (s.withParity { s.parity with mcBadPending := false })
     else s).useDraws 1
  else s

/-- The instruction counts as executed at a clock before its effect: in the list, it counts at the first clock of the
step; not in the list, at the first clock after the effect (rules R330, R384; log 7). -/
def retired (early : Bool) : List Occurrence := if early then [.instruction] else []

/-- The clocks of a step before the effect of its instruction, at least one (rule R325; log 7). -/
def beforeInstruction (s : State) : State :=
  (s.passClocks (retired (Config.retiresBefore s.draws))
    (Config.clocksBefore s.draws + boolNat (!Config.retiresBefore s.draws))).useDraws 1

/-- The clocks of a step after the effect: what occurred in it is counted, the instruction too unless it was counted
before; `d` is the count of free values the step began with (rule R335; log 7). A line written back in the step, also by
the snoop of the instruction's own fetch, is counted here in event 6, so under the CESR and on top of the counter that the
instruction has just written: the spec does not say in which clock of the step it counts (rule R368; DESIGN CHOICE, log 7).
-/
def afterInstruction (d : Nat) (s : State) : State :=
  (s.withOccurred (s.occurred ++ retired (!Config.retiresBefore d))).drainClocks (Config.clocksAfter d)

/-- The clocks of a step without an instruction's effect, at least one: in the HALT state, and in the step that enters
shutdown before its turn (rules R325, R477). -/
def idleClocks (s : State) : State := (s.drainClocks (1 + Config.clocksBefore s.draws)).useDraws 1

/-- The turn `k` of a step after the microcode parity check (rule R286). With NS = 0 an error shuts the machine down, the
turn is not taken and clocks pass (rule R287; log 15). -/
def afterMicrocodeCheck (k : State → Result) (s : State) : Result :=
  if (microcodeCheck s).run = .shutdown then .next (idleClocks (microcodeCheck s)) else k (microcodeCheck s)

/-- An instruction the IA-32 core executes that no row of the opcode table is: its effect between the clocks of its step,
counted once in event 22 (rules R325, R384; log 49). `EIP`, which stands between two instructions of this spec, stays (log
42). -/
def executed (effect : State → State) (s : State) : State :=
  afterInstruction s.draws (effect (beforeInstruction s))

/-! ### Accesses by normal operation -/

/-- The keys of the ways of a set. -/
def wayKeys (v : Variant) (set : BitVec 7) : List Nat := (List.range v.cacheWays).map (lineKey set)

/-- The keys of the data cache lines that hold a physical address (rule R196; log 43). -/
def dataHits (a : Word) (s : State) : List Nat :=
  (wayKeys s.cfg.variant (addressSet s.cfg a)).filter fun k =>
    (s.caches.dataLine k).state != .invalid && (s.caches.dataLine k).tag == addressTag s.cfg a

/-- The keys of the code cache lines that hold a physical address. -/
def codeHits (a : Word) (s : State) : List Nat :=
  (wayKeys s.cfg.variant (addressSet s.cfg a)).filter fun k =>
    (s.caches.codeLine k).valid && (s.caches.codeLine k).tag == addressTag s.cfg a

/-- What giving up a data cache line reads has bad parity: all of a modified line, the tag of another valid one, and
nothing of an invalid one, so that flushing a line of bad parity is enough (program P9 of `95_test_vectors.md`). What it
reads of a line that is not written back is the model's choice (DESIGN CHOICE, log 26). -/
def giveUpBad (l : DataLine) : Bool :=
  match l.state with
  | .modified => writebackBad l
  | .shared | .exclusive => l.badTag
  | .invalid => false

/-- Normal operation gives up a data cache line, then `rest`: what is read of it is checked (rules R284, R287; log 26); a
modified line is written back and the line is invalid. With NS = 0 a bad granule shuts the machine down, the line stays
and `rest` does not happen (log 15). -/
def giveUpDataLine (key : Nat) (set : BitVec 7) (rest : State → State) (s : State) : State :=
  checkParity (giveUpBad (s.caches.dataLine key)) s fun t => rest (invalidateDataLine key set t)

/-- The data cache lines at some keys of a set given up, one after the other, then `rest`. The order, rising ways when
internal snooping writes back two modified lines of one address, is the model's: the spec states none (rule R110; DESIGN
CHOICE, log 48). Each line with a bad granule is reported once (rule R284; DESIGN CHOICE, log 26). -/
def giveUpDataLines (set : BitVec 7) (rest : State → State) : List Nat → State → State
  | [], s => rest s
  | k :: keys, s => giveUpDataLine k set (giveUpDataLines set rest keys) s

/-- A code fetch that misses the code cache invalidates the line in the data cache, written back first if it is
modified (rule R110). If two lines hold the address, they are given up in rising order of way (DESIGN CHOICE, log 48).
-/
def snoopData (a : Word) (s : State) : State := giveUpDataLines (addressSet s.cfg a) id (dataHits a s) s

/-- The code cache line at a key made invalid; its other fields stay (DESIGN CHOICE, log 45). -/
def invalidateCodeLine (key : Nat) (s : State) : State :=
  s.withCaches (s.caches.putCode key { s.caches.codeLine key with valid := false })

/-- A data access that misses the data cache invalidates the line in the code cache, whose tag is read and checked, then
`rest` (rules R109, R284; log 26). If it holds several lines of the address, one report stands for all that have a bad tag
(DESIGN CHOICE, log 26). -/
def snoopCode (a : Word) (rest : State → State) (s : State) : State :=
  checkParity ((codeHits a s).any fun k => (s.caches.codeLine k).badTag) s
    fun t => rest ((codeHits a s).foldl (fun u k => invalidateCodeLine k u) t)

/-- A code access at a physical address: a hit reads the line and checks its parity (rule R284), a miss snoops the data
cache (rule R110), and two hits have no meaning (rule R189 a). Only lines that hit are checked, and on a miss none of
the code cache (DESIGN CHOICE, log 26). Free value 0: a bad group outside the half fetched. -/
def codeFetchMove (a : Word) (s : State) : Result :=
  match codeHits a s with
  | [] => .next ((snoopData a s).useDraws 1)
  | [k] =>
    .next ((checkParity (codeReadBad (s.caches.codeLine k) (addressPortion a) (s.freeBool 0)) s id).useDraws 1)
  | _ => .refused .cacheDoubleHit

/-- The physical address of a linear address: the same while paging is off (CR0 bit 31 clear), else with a free page
number (rules R7, R105; PRESUMED, log 50). With paging on the core's own fetch looks nothing up in the code TLB: it checks
no entry's parity (rule R284) and breaks no TLB test sequence (rule R222); lookups are the turns `tlbLookup` of the agenda
(DESIGN CHOICE, log 50). -/
def physicalAddress (s : State) (a : Word) : Word :=
  if s.core.pg then Config.translate (a.extractLsb' 12 20) s.draws ++ a.extractLsb' 0 12 else a

/-- `k` after a code access at a linear address, unless the access ends the step: with NS = 0 a bad granule shuts the
machine down (rule R287). -/
def afterCodeAccess (a : Word) (k : State → Result) (s : State) : Result :=
  match codeFetchMove (physicalAddress s a) s with
  | .next t => if t.run = .shutdown then .next (idleClocks t) else k t
  | .fault f => .fault f
  | .refused r => .refused r

/-- The fetch of an instruction of `n` bytes is a code access to the half line of its first byte and, if that is another
one, to the half line of its last (rule R110: "the test program's own instruction fetches are such code accesses"; log
50). A half line is what one group of parity bits covers (rule R206). On `P` the decode of these bytes repairs no end bits
here: the repair of rule R183 is the turn `repairEndBits`; and with paging on the fetch makes no code TLB lookup: lookups
are the turns `tlbLookup` (rules R105, R222, R284; DESIGN CHOICE, log 50). -/
def fetched (n : Nat) (k : State → Result) (s : State) : Result :=
  let first := s.core.eip
  let last := first + BitVec.ofNat 32 (n - 1)
  afterCodeAccess first (fun t => if first.toNat / 16 = last.toNat / 16 then k t else afterCodeAccess last k t) s

/-- The fill buffer after a memory data read: any portion may be replaced by a free value (rule R113). -/
def disturbFill (s : State) : State :=
  s.withCacheTest
    { s.cacheTest with
      fill := Vector.ofFn fun k : Fin 8 =>
        if s.freeBool (1 + k.val) then s.freeBits (9 + k.val) 32 else s.cacheTest.fill[k.val] }

/-- A memory data read (rules R109, R113, R284). Only the line that hits is checked, and on a miss none of the data
cache (DESIGN CHOICE, log 26); two hits have no meaning (rule R189 a). Free values: 0 parity, 1 to 8 which portions of
the fill buffer are replaced, 9 to 16 by what. The turn has an address and no width: a read that crosses a 4-byte boundary
or a line is several turns (rule R103; DESIGN CHOICE, log 43). -/
def dataReadMove (a : Word) (s : State) : Result :=
  match dataHits a s with
  | [] => .next ((snoopCode a disturbFill s).useDraws 17)
  | [k] =>
    .next ((checkParity (dataReadBad (s.caches.dataLine k) (addressPortion a) (s.freeBool 0)) s disturbFill).useDraws 17)
  | _ => .refused .cacheDoubleHit

/-- The byte of address bits 1:0 of a 4-byte portion replaced (rule R102 b). -/
def setByte (w : Word) (a : Word) (b : Byte) : Word :=
  let shift := 8 * (a.toNat % 4)
  (w &&& ~~~(0xFF#32 <<< shift)) ||| (b.setWidth 32 <<< shift)

/-- The bad parity bit of one byte set from DD (rules R66, R283). -/
def setBadByte (bits : BitVec 4) (a : Word) (bad : Bool) : BitVec 4 :=
  let bit := BitVec.twoPow 4 (a.toNat % 4)
  if bad then bits ||| bit else bits &&& ~~~bit

/-- A data cache line after a byte is written into it: the parity bit of that byte follows DD (rule R283). -/
def lineAfterWrite (a : Word) (b : Byte) (state : Mesi) (dd : Bool) (l : DataLine) : DataLine :=
  let k := addressPortion a
  { l with
    data := setPortion l.data k (setByte (portion l.data k) a b)
    badByte := setPortion l.badByte k (setBadByte (portion l.badByte k) a dd)
    state := state }

/-- A memory data write of one byte: a hit reads and checks the tag (rules R109, R283, R284; log 26); two hits have no
meaning (rule R189 a). A write of more bytes, aligned or not, is several turns (rule R103; DESIGN CHOICE, log 43). -/
def dataWriteMove (a : Word) (b : Byte) (line : Mesi) (reachesMemory : Bool) (s : State) : Result :=
  let store (t : State) : State := if reachesMemory then t.withMem (writeByte t.mem a.toNat b) else t
  match dataHits a s with
  | [] => .next (snoopCode a store s)
  | [k] =>
    .next (checkParity (s.caches.dataLine k).badTag s fun t =>
      (store t).withCaches (t.caches.putData k (lineAfterWrite a b line t.parity.dd (t.caches.dataLine k))))
  | _ => .refused .cacheDoubleHit

/-! ### The pins -/

/-- `RESET` (rules R80, R500): the state after reset of the same configuration. Memory, the trace and the model's own
counters are not the processor's and stay (log 40). -/
def State.afterReset (s : State) : State :=
  let r := State.resetWith s.cfg
  (((((r.withMem s.mem).withCode s.code).withTrace s.trace).withPerf { r.perf with clock := s.perf.clock }).withAgenda
    s.agenda).withDraws s.draws

/-- Every modified line of the list written back, then `rest`. The order, that of the keys, is the model's: the spec does
not state it (rule R473; DESIGN CHOICE, log 48). The tag and the data of a line are read and checked (rule R284; log
26); with NS = 0 a bad granule shuts the machine down and the rest does not happen (log 15). -/
def writebackAll (rest : State → State) : Sparse DataLine → State → State
  | [], s => rest s
  | p :: lines, s =>
    if p.2.state = .modified then
      checkParity (writebackBad p.2) s fun t =>
        writebackAll rest lines (writeback p.2 (BitVec.ofNat 7 (p.1 / 4)) t)
    else writebackAll rest lines s

/-- Eight free groups of four bits, from the `i`-th free value on. -/
def State.freeLineBits (s : State) (i : Nat) : LineBits := Vector.ofFn fun k : Fin 8 => s.freeBits (i + k.val) 4

/-- TR2, TR3, TR4, TR5L and both buffers after FLUSH#: free values (rule R473). TR2 and the end bit buffer exist on
`P` only. -/
def cacheTestAfterFlush (s : State) : CacheTest where
  tr2 := match s.cfg.variant with
    | .p => s.freeBits 0 4
    | .pmmx => s.cacheTest.tr2
  tr3 := s.freeBits 1 32
  tr4 := unpackTr4 s.cfg (s.free 2)
  tr4UpperZero := false
  tr5 := unpackTr5 s.cfg (s.free 3)
  fill := s.freeLine 4
  endbuf := match s.cfg.variant with
    | .p => s.freeLineBits 12
    | .pmmx => s.cacheTest.endbuf

/-- Both caches invalid and the cache test registers lost (rule R473). -/
def afterWriteback (s : State) : State :=
  ((s.withCaches s.caches.flushCode.flushData).withCacheTest (cacheTestAfterFlush s)).withOccurred
    (s.occurred ++ [.flushService])

/-- `FLUSH#` serviced (rule R473): writeback of the data cache, invalidation of both, the cache test registers lost. It
counts as a taken branch (rule R380) but sends no branch trace message while TR12.TR = 1 (DESIGN CHOICE, log 8). -/
def flushPin (s : State) : State := (writebackAll afterWriteback s.caches.dcache s).useDraws 20

/-! ### Fills, evictions, repairs -/

/-- Line fills of the code cache happen: CR0.CD = 0 and no inhibit bit of TR12 (rules R182, R305, R308). -/
def codeFillAllowed (s : State) : Bool := !s.core.cd && !s.codeFillInhibited

/-- Line fills of the data cache happen (rules R182, R305, R309). -/
def dataFillAllowed (s : State) : Bool := !s.core.cd && !s.dataFillInhibited

/-- A line fill of the code cache: parity from TR1, and on `P` all end bits one (rules R183, R283). -/
def fillCodeMove (set : BitVec 7) (way : BitVec 2) (tag : BitVec 23) (data : LineData) (s : State) : State :=
  let key := lineKey set (cacheWay s.cfg.variant way)
  if codeFillAllowed s then
    s.withCaches (s.caches.putCode key
      { data := data
        tag := clipTag s.cfg tag
        valid := true
        endbits := match s.cfg.variant with
          | .p => Vector.replicate 8 0xF
          | .pmmx => (s.caches.codeLine key).endbits
        badTag := s.parity.it
        badData := s.parity.id })
  else s

/-- A line fill of the data cache: the line it replaces is given up, parity from TR1 (rules R283, R284). The fill buffer of
the cache tests stays: of the turns of an access or a fill only `dataRead` disturbs it (rules R62, R113; DESIGN CHOICE, log
42). -/
def fillDataMove (set : BitVec 7) (way : BitVec 2) (tag : BitVec 23) (data : LineData) (state : Mesi) (wb : Bool)
    (s : State) : State :=
  let key := lineKey set (cacheWay s.cfg.variant way)
  if dataFillAllowed s then
    giveUpDataLine key set
      (fun t => t.withCaches (t.caches.putData key
        { data := data
          tag := clipTag t.cfg tag
          state := state
          wb := wb
          badTag := t.parity.dt
          badByte := Vector.replicate 8 (allBits t.parity.dd) })) s
  else s

/-- A code cache line given up; replacements are disabled while CR0.CD = 1 (rule R182). -/
def evictCodeMove (set : BitVec 7) (way : BitVec 2) (s : State) : State :=
  if s.core.cd then s else invalidateCodeLine (lineKey set (cacheWay s.cfg.variant way)) s

/-- A data cache line given up, written back if modified. -/
def evictDataMove (set : BitVec 7) (way : BitVec 2) (s : State) : State :=
  if s.core.cd then s else giveUpDataLine (lineKey set (cacheWay s.cfg.variant way)) set id s

/-- The end bits of a code cache line repaired, `P` only (rule R183). -/
def repairMove (set : BitVec 7) (way : BitVec 2) (bits : LineBits) (s : State) : State :=
  let key := lineKey set (cacheWay s.cfg.variant way)
  match s.cfg.variant with
  | .p => s.withCaches (s.caches.putCode key { s.caches.codeLine key with endbits := bits })
  | .pmmx => s

/-- A BTB entry allocated, with the bits its variant has (rules R8, R65): never while NBP = 1 (rule R302). -/
def btbAllocateMove (set : BitVec 6) (bank way : BitVec 2) (e : BtbEntry) (s : State) : State :=
  if s.nbp = false ∧ set.toNat < s.cfg.variant.btbSets then
    s.putBtbEntry set way bank { clipBtb s.cfg.variant e with valid := true }
  else s

/-- A BTB entry deallocated (rules R252, R302): its valid bit is cleared, and its tag, history, target and other fields
stay (DESIGN CHOICE, log 45). -/
def btbReleaseMove (set : BitVec 6) (bank way : BitVec 2) (s : State) : State :=
  if set.toNat < s.cfg.variant.btbSets then s.putBtbEntry set way bank { s.btbEntry set way bank with valid := false }
  else s

/-- The TLB a name stands for: `PMMX` has one data TLB (rule R64). -/
def tlbOf (v : Variant) (n : TlbName) : TlbName :=
  match v, n with
  | .pmmx, .data4M => .data4K
  | _, n => n

/-- The page size an entry of a data TLB has: on `P` that of its TLB, on `PMMX` any (rule R64). -/
def pageSizeIn (v : Variant) (n : TlbName) (ps : Bool) : Bool :=
  match v with
  | .p => decide (n = .data4M)
  | .pmmx => ps

/-- A TLB entry filled, with parity from TR1 (rules R63, R64, R283); a test sequence under way is broken (rule R222; log
13). The entry it replaces is not read, so its parity is not checked (DESIGN CHOICE, log 26). -/
def fillTlb (n : TlbName) (entry : BitVec 6) (lru : BitVec 3) (e : TlbEntry) (s : State) : State :=
  let n := tlbOf s.cfg.variant n
  let stored : TlbEntry := match n with
    | .code => { e with ps := false, d := false, w := false, badTag := s.parity.itt, badData := s.parity.itd }
    | _ => { e with ps := pageSizeIn s.cfg.variant n e.ps, badTag := s.parity.dtt, badData := s.parity.dtd }
  let t := s.tlbs.putEntry n (tlbKey s.cfg.variant n e.lpn entry) stored
  (s.withTlbs (match s.cfg.variant with
    | .p => t.putLru n (tlbSet n e.lpn) lru
    | .pmmx => t)).withTlbSequence s.tlbSequence.fill

/-- A TLB fill by normal operation: with paging off no address is translated by the paging path, and nothing is filled or
broken (rule R222, item 4; log 13). -/
def tlbFillMove (n : TlbName) (entry : BitVec 6) (lru : BitVec 3) (e : TlbEntry) (s : State) : State :=
  if s.core.pg then fillTlb n entry lru e s else s

/-- A page looked up in a TLB: a hit checks the parity of the entry (rule R284), two matches have no meaning (rule
R224 d), and a hit on an entry under test breaks the test sequence (rule R222; log 13). Only the entry that matches is
checked: nothing on a miss, and no other way (DESIGN CHOICE, log 26). On `P` the LRU bits of the set stay, and no other
turn touches them without a fill (rule R9; DESIGN CHOICE, log 23). -/
def lookupTlb (n : TlbName) (la : BitVec 20) (s : State) : Result :=
  let n := tlbOf s.cfg.variant n
  match tlbMatches s.cfg.variant s.tlbs n la with
  | [] => .next s
  | [k] =>
    .next (checkParity ((s.tlbs.entry n k).badTag || (s.tlbs.entry n k).badData)
      (s.withTlbSequence (s.tlbSequence.use n [k])) id)
  | _ => .refused .tlbDoubleMatch

/-- A TLB lookup by normal operation: none while paging is off, when no address is translated by the paging path (rule
R222, item 4; log 13). -/
def tlbLookupMove (n : TlbName) (la : BitVec 20) (s : State) : Result :=
  if s.core.pg then lookupTlb n la s else .next s

/-- A taken branch: with TR = 1 a branch trace message of its address and, unless FTR = 1, one of its target, in that
order (rules R303, R306). The trace lists the newest output first. -/
def takenBranchMove (source target : Word) (s : State) : State :=
  let traced :=
    if s.tr then
      (if s.ftr then s.withTrace (.branchFrom source :: s.trace)
       else s.withTrace (.branchTo target :: .branchFrom source :: s.trace))
    else s
  traced.withOccurred (s.occurred ++ [.takenBranch])

/-! ### Control registers -/

/-- A load of CR3 invalidates every TLB entry and every BTB entry (rules R230, R260) and ends a TLB test sequence (rule
R222). -/
def loadCr3Effect (v : Word) (s : State) : State :=
  (((s.withCore { s.core with cr3 := v }).withTlbs s.tlbs.flush).withBtb (flushBtb s.btb)).withTlbSequence
    TlbSequence.closed

/-- A load of CR0. -/
def loadCr0Effect (v : Word) (s : State) : State := s.withCore { s.core with cr0 := v }

/-- A load of CR4. -/
def loadCr4Effect (v : Word) (s : State) : State := s.withCore { s.core with cr4 := v }

/-- A breakpoint address register loaded. -/
def Core.writeDr (c : Core) (i : Fin 4) (v : Word) : Core :=
  if i = 0 then { c with dr0 := v }
  else if i = 1 then { c with dr1 := v }
  else if i = 2 then { c with dr2 := v }
  else { c with dr3 := v }

/-- A load of a control register by the IA-32 core: at CPL 0 its effect in a step of its own, elsewhere `#GP(0)` (rules
R384, R478, G7; log 49). A load of a debug register has no such guard (log 49). Rule R380 has serializing instructions cause
taken branches and lists none: the loads are here no taken branches, and send no branch trace message while TR12.TR = 1
(rule R303; DESIGN CHOICE, log 49). -/
def loadControl (effect : State → State) (s : State) : Result := privileged s (.next (executed effect s))

/-- A machine check: the registers latch the cycle, and the exception is raised if CR4.MCE = 1 (rules R28, R29, R463;
log 28). A raised exception ends the run without a state, so what was latched is seen only with CR4.MCE = 0 (log 28). -/
def machineCheckMove (addr type : Quad) (s : State) : Result :=
  let t := s.withMachineCheck addr type
  if s.core.mce then raiseMc t else .next t

/-- One move of an agent. A change of CPL, which rule R478 says far control transfers and task switches make, is here no
taken branch: it sends no branch trace message while TR12.TR = 1; such a branch is a turn `takenBranch` of its own (rule
R303; DESIGN CHOICE, log 49), and the two turns then count two in event 22, where one transfer is one instruction (rule
R384; DESIGN CHOICE, log 49). That a background agent does nothing to the arrays inside a test sequence (D14, rule R182) is a
premise on the agenda, but for the fills and replacements CR0.CD and NBP disable: `touchCode` and `touchData` change LRU
bits also while CR0.CD = CR0.NW = 1 (DESIGN CHOICE, log 42). -/
def agentMove (a : Agent) (s : State) : Result :=
  match a with
  | .reset => .next s.afterReset
  | .flush => .next (flushPin s)
  | .clocks n => .next (s.passClocks [] n)
  | .machineCheck addr type => machineCheckMove addr type s
  | .loadCr3 v => loadControl (loadCr3Effect v) s
  | .loadCr0 v => loadControl (loadCr0Effect v) s
  | .loadCr4 v => loadControl (loadCr4Effect v) s
  | .loadDr i v => .next (executed (fun t => t.withCore (t.core.writeDr i v)) s)
  | .changeCpl c => .next (executed (fun t => t.withCore { t.core with cpl := c }) s)
  | .dataRead a => dataReadMove a s
  | .dataWrite a b line reachesMemory => dataWriteMove a b line reachesMemory s
  | .memoryWrite a b => .next (s.withMem (writeByte s.mem a.toNat b))
  | .codeFetch a => codeFetchMove a s
  | .fillCode set way tag data => .next (fillCodeMove set way tag data s)
  | .fillData set way tag data state wb => .next (fillDataMove set way tag data state wb s)
  | .evictCode set way => .next (evictCodeMove set way s)
  | .evictData set way => .next (evictDataMove set way s)
  | .touchCode set lru => .next (s.withCaches (s.caches.putCodeLru set (clipLru s.cfg.variant lru)))
  | .touchData set lru => .next (s.withCaches (s.caches.putDataLru set (clipLru s.cfg.variant lru)))
  | .repairEndBits set way bits => .next (repairMove set way bits s)
  | .btbAllocate set bank way e => .next (btbAllocateMove set bank way e s)
  | .btbRelease set bank way => .next (btbReleaseMove set bank way s)
  | .tlbFill t entry lru e => .next (tlbFillMove t entry lru e s)
  | .tlbLookup t la => tlbLookupMove t la s
  | .takenBranch source target => .next (takenBranchMove source target s)

/-- The pending occurrences of a next state are counted, each in a clock of its own, and `quiet` more clocks pass (rule
R335). Rule R325 leaves the clocks of a step free: the turn of an agent that is not the core takes exactly one for each
occurrence and none else, and further clocks are turns `clocks n` of the agenda (DESIGN CHOICE, log 7). -/
def drained (quiet : Nat) : Result → Result
  | .next s => .next (s.drainClocks quiet)
  | .fault f => .fault f
  | .refused r => .refused r

end Sys2Proof.Machine
end

