-- ==== Sys2Proof/Machine/Helpers.lean ====
section
/-!
DEFINITION. CPUID (rule R160) and the helper instructions (rules R170 to R174).
-/

namespace Sys2Proof.Machine

/-- CPUID writes its four result registers (rule R160). -/
def Core.writeCpuid (c : Core) (eax ebx ecx edx : Word) : Core :=
  { c with eax := eax, ebx := ebx, ecx := ecx, edx := edx }

/-- The signature CPUID returns: family 5 in bits 11:8, the model in bits 7:4, the other bits free (rule R160). -/
def cpuidSignature (model : BitVec 4) (free : Word) : Word :=
  replaceBits 0xFF0 free (0x500 ||| (model.setWidth 32 <<< 4))

/-- The feature bits CPUID returns: bits 4 (TSC) and 5 (MSR) set, the other bits free (rule R160). -/
def cpuidFeatures (free : Word) : Word := free ||| 0x30

/-- CPUID (rule R160; log 29). -/
def execCpuid (s : State) : Result :=
  if s.core.eax = 1 then
    .next (((s.withCore (s.core.writeCpuid (cpuidSignature s.cfg.model (s.freeBits 0 32)) (s.freeBits 1 32)
      (s.freeBits 2 32) (cpuidFeatures (s.freeBits 3 32)))).advance 2).useDraws 4)
  else .refused (.cpuidFunction s.core.eax)

/-- MOV r32, imm32 (rule R170). -/
def execMovImm (r : Reg) (imm : Word) (s : State) : Result :=
  .next ((s.withCore (s.core.write r imm)).advance 5)

/-- OR EAX, imm32 (rule R171). -/
def execOrEaxImm (imm : Word) (s : State) : Result :=
  .next ((s.withCore (s.core.write .eax (s.core.eax ||| imm))).advance 5)

/-- AND EAX, imm32 (rule R172). -/
def execAndEaxImm (imm : Word) (s : State) : Result :=
  .next ((s.withCore (s.core.write .eax (s.core.eax &&& imm))).advance 5)

/-- XOR r32, r32 with one register twice (rule R173). -/
def execXorSame (r : Reg) (s : State) : Result :=
  .next ((s.withCore (s.core.write r 0)).advance 2)

/-- HLT: the HALT state (rules R174, R477; log 16). -/
def execHlt (s : State) : Result := privileged s (.next ((s.advance 1).withRun .halted))

end Sys2Proof.Machine
end

