-- ==== Sys2Proof/Machine/MsrRead.lean ====
section
/-!
DEFINITION. RDMSR of each register (rules R23, R28 to R50, R161, R163): the row of the opcode table with the index
already selected. Reserved bits and write-only fields read as free values (rule R23 a, b; log 6).
-/

namespace Sys2Proof.Machine

/-- `RDMSR` returns `v` (rule R161). -/
def readMsr (v : State → Quad) (s : State) : Result := privileged s (.next (s.result (v s)))

/-- `RDMSR` returns `v` where `mask` has ones and free bits elsewhere; one free value is used (rules R23, R161). -/
def readMsrMasked (mask : State → Quad) (v : State → Quad) (s : State) : Result :=
  privileged s (.next ((s.result (withFreeBits (mask s) (v s) (s.free 0))).useDraws 1))

/-- The mask of the defined bits of a register. -/
def definedBits (m : Msr) (s : State) : Quad := msrMask s.cfg m

/-- RDMSR MCA: a free value, subject to `LAYOUT_MCA` (rule R28, D15; log 28). -/
def execRdmsrMca (s : State) : Result :=
  privileged s (.next ((s.result (Config.layoutMca s.mca s.draws)).useDraws 1))

/-- RDMSR MCT: a free value, subject to `LAYOUT_MCT` (rule R29, D15; log 28). -/
def execRdmsrMct (s : State) : Result :=
  privileged s (.next ((s.result (Config.layoutMct s.mct s.draws)).useDraws 1))

/-- RDMSR TR1: PES in bit 0, the rest free (rule R288). -/
def execRdmsrTr1 (s : State) : Result :=
  readMsrMasked (fun _ => 1) (fun s => BitVec.ofNat 64 (boolNat s.parity.pes)) s

/-- RDMSR TR2, a reserved index on `PMMX` (rules R31, R163, R199). -/
def execRdmsrTr2 (s : State) : Result :=
  match s.cfg.variant with
  | .p => readMsrMasked (definedBits .tr2) (fun s => s.cacheTest.tr2.setWidth 64) s
  | .pmmx => privileged s (reservedAccess 0x04 false s)

/-- RDMSR TR3 (rules R32, R199). -/
def execRdmsrTr3 (s : State) : Result :=
  readMsrMasked (definedBits .tr3) (fun s => zeroHigh s.cacheTest.tr3) s

/-- The bits of TR4 that do not read free: the fields, and bits 31:28 once a testability read came after the last
write (rules R33, R199). -/
def tr4ReadMask (s : State) : Quad :=
  msrMask s.cfg .tr4 ||| (if s.cacheTest.tr4UpperZero then 0xF0000000 else 0)

/-- RDMSR TR4 (rules R33, R199). -/
def execRdmsrTr4 (s : State) : Result := readMsrMasked tr4ReadMask (fun s => packTr4 s.cfg s.cacheTest.tr4) s

/-- RDMSR TR5, a write-only register: a free value (rule R36). -/
def execRdmsrTr5 (s : State) : Result := readMsrMasked (fun _ => 0) (fun _ => 0) s

/-- RDMSR TR6 (rules R38, R229). -/
def execRdmsrTr6 (s : State) : Result :=
  readMsrMasked (definedBits .tr6) (fun s => packTr6 s.cfg s.tlbTest.tr6) s

/-- RDMSR TR7 (rules R40, R229). -/
def execRdmsrTr7 (s : State) : Result :=
  readMsrMasked (definedBits .tr7) (fun s => packTr7 s.cfg s.tlbTest.tr7) s

/-- RDMSR TR9 (rules R41, R259). -/
def execRdmsrTr9 (s : State) : Result := readMsrMasked (definedBits .tr9) (fun s => zeroHigh s.btbTest.tr9) s

/-- RDMSR TR10 (rules R42, R259). -/
def execRdmsrTr10 (s : State) : Result := readMsrMasked (definedBits .tr10) (fun s => zeroHigh s.btbTest.tr10) s

/-- RDMSR TR11 (rules R43, R259). -/
def execRdmsrTr11 (s : State) : Result := readMsrMasked (definedBits .tr11) (fun s => zeroHigh s.btbTest.tr11) s

/-- RDMSR TR12, a write-only register: a free value (rule R310). -/
def execRdmsrTr12 (s : State) : Result := readMsrMasked (fun _ => 0) (fun _ => 0) s

/-- RDMSR TSC: all 64 bits (rule R46). -/
def execRdmsrTsc (s : State) : Result := readMsr (fun s => s.perf.tsc) s

/-- RDMSR CESR: the value last written in bits 31:0, bits 63:32 free (rule R331). -/
def execRdmsrCesr (s : State) : Result :=
  readMsrMasked (fun _ => 0xFFFFFFFF) (fun s => zeroHigh s.perf.cesr) s

/-- RDMSR CTR0: the count, bits 63:40 zero (rules R50, R332). -/
def execRdmsrCtr0 (s : State) : Result := readMsr (fun s => s.perf.ctr0.setWidth 64) s

/-- RDMSR CTR1 (rules R50, R332). -/
def execRdmsrCtr1 (s : State) : Result := readMsr (fun s => s.perf.ctr1.setWidth 64) s

/-- RDMSR of the reserved index 03h (rule R163). -/
def execRdmsrReserved03 (s : State) : Result := privileged s (reservedAccess 0x03 false s)

/-- RDMSR of index 04h, reserved on `PMMX`; on `P` the index is TR2 and this row does not exist (rules R22, R163). -/
def execRdmsrReserved04 (s : State) : Result :=
  match s.cfg.variant with
  | .p => .refused .notOnVariant
  | .pmmx => privileged s (reservedAccess 0x04 false s)

/-- RDMSR of the reserved index 0Ah (rule R163). -/
def execRdmsrReserved0A (s : State) : Result := privileged s (reservedAccess 0x0A false s)

/-- RDMSR of the reserved index 0Fh (rule R163). -/
def execRdmsrReserved0F (s : State) : Result := privileged s (reservedAccess 0x0F false s)

/-- RDMSR of a reserved index from 14h on (rules R22, R163). -/
def execRdmsrReservedAbove (ecx : Word) (s : State) : Result := privileged s (reservedAccess ecx false s)

/-- What RDMSR does with the register it selects. -/
def rdmsrOf (s : State) : Msr → Result
  | .mca => execRdmsrMca s
  | .mct => execRdmsrMct s
  | .tr1 => execRdmsrTr1 s
  | .tr2 => execRdmsrTr2 s
  | .tr3 => execRdmsrTr3 s
  | .tr4 => execRdmsrTr4 s
  | .tr5 => execRdmsrTr5 s
  | .tr6 => execRdmsrTr6 s
  | .tr7 => execRdmsrTr7 s
  | .tr9 => execRdmsrTr9 s
  | .tr10 => execRdmsrTr10 s
  | .tr11 => execRdmsrTr11 s
  | .tr12 => execRdmsrTr12 s
  | .tsc => execRdmsrTsc s
  | .cesr => execRdmsrCesr s
  | .ctr0 => execRdmsrCtr0 s
  | .ctr1 => execRdmsrCtr1 s

/-- RDMSR: privilege, then the index, then the read (rules R161, R167). -/
def execRdmsr (s : State) : Result :=
  privileged s
    (match msrOfIndex s.cfg.variant s.core.ecx with
     | some m => rdmsrOf s m
     | none => reservedAccess s.core.ecx false s)

end Sys2Proof.Machine
end

