-- ==== Sys2Proof/Machine/MsrWrite.lean ====
section
/-!
DEFINITION. WRMSR to each register (rules R24, R28 to R50, R164, R165): the row of the opcode table with the index
already selected. The checks come in the order of rules R164 and R467: privilege, index, reserved bits,
preconditions.
-/

namespace Sys2Proof.Machine

/-- `WRMSR` of `EDX:EAX` to register `m`: privilege, reserved bits, precondition, effect (rules R24, R164, R467). -/
def writeMsr (m : Msr) (pre : State → Bool) (effect : Quad → State → State) (s : State) : Result :=
  privileged s
    (noReservedOnes m s.core.edxEax s
      (inTestProcedure m (pre s) (.next ((effect s.core.edxEax s).advance 2))))

/-- WRMSR to MCA has no meaning (rule R28, D15). -/
def execWrmsrMca (s : State) : Result := privileged s (.refused (.machineCheckWrite .mca))

/-- WRMSR to MCT has no meaning (rule R29, D15). -/
def execWrmsrMct (s : State) : Result := privileged s (.refused (.machineCheckWrite .mct))

/-- TR1 written: PES, the reversal bits, and the 0 to 1 transition of MC (rule R282). -/
def writeTr1 (v : Quad) (s : State) : State :=
  s.withParity
    { pes := v.getLsbD 0
      prrl := v.extractLsb' 1 13
      mcPrev := v.getLsbD 13
      mcBadPending := s.parity.mcBadPending || (!s.parity.mcPrev && v.getLsbD 13) }

/-- WRMSR to TR1, defined at any time at CPL 0 (rules R281, R282, D5). -/
def execWrmsrTr1 (s : State) : Result := writeMsr .tr1 (fun _ => true) writeTr1 s

/-- TR2 written, and the end bit buffer at the portion TR5L selects (rule R186). -/
def writeTr2 (v : Quad) (s : State) : State :=
  s.withCacheTest
    { s.cacheTest with
      tr2 := v.extractLsb' 0 4
      endbuf := setPortion s.cacheTest.endbuf s.cacheTest.tr5.buffer (v.extractLsb' 0 4) }

/-- WRMSR to TR2; on `PMMX` the index is reserved (rules R165, R186). -/
def execWrmsrTr2 (s : State) : Result :=
  match s.cfg.variant with
  | .p => writeMsr .tr2 cacheTestPre writeTr2 s
  | .pmmx => privileged s (reservedAccess 0x04 true s)

/-- TR3 written, and the fill buffer at the portion TR5L selects (rule R185). -/
def writeTr3 (v : Quad) (s : State) : State :=
  s.withCacheTest
    { s.cacheTest with
      tr3 := lowHalf v
      fill := setPortion s.cacheTest.fill s.cacheTest.tr5.buffer (lowHalf v) }

/-- WRMSR to TR3 (rule R185). -/
def execWrmsrTr3 (s : State) : Result := writeMsr .tr3 cacheTestPre writeTr3 s

/-- TR4 written (rule R187). -/
def writeTr4 (v : Quad) (s : State) : State :=
  s.withCacheTest { s.cacheTest with tr4 := unpackTr4 s.cfg v, tr4UpperZero := false }

/-- WRMSR to TR4 (rule R187). -/
def execWrmsrTr4 (s : State) : Result := writeMsr .tr4 cacheTestPre writeTr4 s

/-- The meaning of the command a TR5 value selects (rules R37, R188). -/
def tr5Meaning (f : Tr5) (s : State) : Result :=
  if f.cntl = 0 then execTr5Normal f.buffer f.set f.entry f.cd f.wb s
  else if f.cntl = 1 then
    if f.cd then execTr5WriteData f.buffer f.set f.entry f.wb s else execTr5WriteCode f.buffer f.set f.entry f.wb s
  else if f.cntl = 2 then
    if f.cd then execTr5ReadData f.buffer f.set f.entry f.wb s else execTr5ReadCode f.buffer f.set f.entry f.wb s
  else if f.cd then
    if f.wb then execTr5FlushDataLine f.buffer f.set f.entry s else execTr5FlushDataAll f.buffer f.set f.entry s
  else execTr5FlushCode f.buffer f.set f.entry f.wb s

/-- WRMSR to TR5 runs the command of the value written (rule R188). -/
def execWrmsrTr5 (s : State) : Result :=
  privileged s (noReservedOnes .tr5 s.core.edxEax s (tr5Meaning (unpackTr5 s.cfg s.core.edxEax) s))

/-- The meaning of the command a TR6 value selects (rule R228). -/
def tr6Meaning (f : Tr6) (s : State) : Result :=
  if f.op then
    if f.cd then execTr6ReadData f.la f.v f.d f.u f.w f.ps s else execTr6ReadCode f.la f.v f.d f.u f.w f.ps s
  else
    if f.cd then execTr6WriteData f.la f.v f.d f.u f.w f.ps s else execTr6WriteCode f.la f.v f.d f.u f.w f.ps s

/-- WRMSR to TR6 runs the command of the value written (rule R228). -/
def execWrmsrTr6 (s : State) : Result :=
  privileged s (noReservedOnes .tr6 s.core.edxEax s (tr6Meaning (unpackTr6 s.cfg s.core.edxEax) s))

/-- TR7 written (rule R223); a TLB test sequence is open from then on (rule R222; log 13). -/
def writeTr7 (v : Quad) (s : State) : State :=
  (s.withTlbTest { s.tlbTest with tr7 := unpackTr7 s.cfg v }).withTlbSequence { s.tlbSequence with active := true }

/-- WRMSR to TR7 (rules R221 to R223). -/
def execWrmsrTr7 (s : State) : Result := writeMsr .tr7 tlbTestPre writeTr7 s

/-- TR9 written (rule R261). -/
def writeTr9 (v : Quad) (s : State) : State := s.withBtbTest { s.btbTest with tr9 := lowHalf v }

/-- WRMSR to TR9 (rule R261). -/
def execWrmsrTr9 (s : State) : Result := writeMsr .tr9 btbTestPre writeTr9 s

/-- TR10 written (rule R262). -/
def writeTr10 (v : Quad) (s : State) : State := s.withBtbTest { s.btbTest with tr10 := lowHalf v }

/-- WRMSR to TR10 (rule R262). -/
def execWrmsrTr10 (s : State) : Result := writeMsr .tr10 btbTestPre writeTr10 s

/-- The meaning of the command a TR11 value selects (rules R44, R263). -/
def tr11Meaning (f : Tr11) (s : State) : Result :=
  if f.control = 0 then execTr11Normal f.btype f.set f.bank f.way s
  else if f.control = 1 then execTr11Write f.btype f.set f.bank f.way s
  else if f.control = 2 then execTr11ReadData f.btype f.set f.bank f.way s
  else if f.control = 3 then execTr11Flush f.btype f.set f.bank f.way s
  else if f.control = 5 then execTr11ReadTag f.btype f.set f.bank f.way s
  else if f.control = 4 then execTr11Reserved4 f.btype f.set f.bank f.way s
  else if f.control = 6 then execTr11Reserved6 f.btype f.set f.bank f.way s
  else execTr11Reserved7 f.btype f.set f.bank f.way s

/-- WRMSR to TR11 runs the command of the value written (rule R263). -/
def execWrmsrTr11 (s : State) : Result :=
  privileged s
    (noReservedOnes .tr11 s.core.edxEax s (tr11Meaning (unpackTr11 s.cfg.variant s.core.edxEax) s))

/-- WRMSR to TR12, without a precondition (rule R301). -/
def execWrmsrTr12 (s : State) : Result := writeMsr .tr12 (fun _ => true) (fun v t => t.withTr12 v) s

/-- WRMSR to TSC (rules R46, R326). -/
def execWrmsrTsc (s : State) : Result :=
  writeMsr .tsc (fun _ => true) (fun v t => t.withPerf { t.perf with tsc := v }) s

/-- WRMSR to CESR; the counters keep their counts (rule R330; log 47). -/
def execWrmsrCesr (s : State) : Result :=
  writeMsr .cesr (fun _ => true) (fun v t => t.withPerf { t.perf with cesr := lowHalf v }) s

/-- WRMSR to CTR0 (rules R50, R332). -/
def execWrmsrCtr0 (s : State) : Result :=
  writeMsr .ctr0 (fun _ => true) (fun v t => t.withPerf { t.perf with ctr0 := v.extractLsb' 0 40 }) s

/-- WRMSR to CTR1 (rules R50, R332). -/
def execWrmsrCtr1 (s : State) : Result :=
  writeMsr .ctr1 (fun _ => true) (fun v t => t.withPerf { t.perf with ctr1 := v.extractLsb' 0 40 }) s

/-- WRMSR to the reserved index 03h (rule R165). -/
def execWrmsrReserved03 (s : State) : Result := privileged s (reservedAccess 0x03 true s)

/-- WRMSR to index 04h, reserved on `PMMX`; on `P` the index is TR2 and this row does not exist (rules R22, R165). -/
def execWrmsrReserved04 (s : State) : Result :=
  match s.cfg.variant with
  | .p => .refused .notOnVariant
  | .pmmx => privileged s (reservedAccess 0x04 true s)

/-- WRMSR to the reserved index 0Ah (rule R165). -/
def execWrmsrReserved0A (s : State) : Result := privileged s (reservedAccess 0x0A true s)

/-- WRMSR to the reserved index 0Fh (rule R165). -/
def execWrmsrReserved0F (s : State) : Result := privileged s (reservedAccess 0x0F true s)

/-- WRMSR to a reserved index from 14h on (rules R22, R165). -/
def execWrmsrReservedAbove (ecx : Word) (s : State) : Result := privileged s (reservedAccess ecx true s)

/-- What WRMSR does with the register it selects. -/
def wrmsrOf (s : State) : Msr → Result
  | .mca => execWrmsrMca s
  | .mct => execWrmsrMct s
  | .tr1 => execWrmsrTr1 s
  | .tr2 => execWrmsrTr2 s
  | .tr3 => execWrmsrTr3 s
  | .tr4 => execWrmsrTr4 s
  | .tr5 => execWrmsrTr5 s
  | .tr6 => execWrmsrTr6 s
  | .tr7 => execWrmsrTr7 s
  | .tr9 => execWrmsrTr9 s
  | .tr10 => execWrmsrTr10 s
  | .tr11 => execWrmsrTr11 s
  | .tr12 => execWrmsrTr12 s
  | .tsc => execWrmsrTsc s
  | .cesr => execWrmsrCesr s
  | .ctr0 => execWrmsrCtr0 s
  | .ctr1 => execWrmsrCtr1 s

/-- WRMSR: privilege, then the index, then the write (rules R164, R167). -/
def execWrmsr (s : State) : Result :=
  privileged s
    (match msrOfIndex s.cfg.variant s.core.ecx with
     | some m => wrmsrOf s m
     | none => reservedAccess s.core.ecx true s)

end Sys2Proof.Machine
end

