-- ==== Sys2Proof/Machine/Perfmon.lean ====
section
/-!
DEFINITION. RDTSC and RDPMC (rules R323, R324, R340 to R342). The clocks of the step pass around these effects
(`Agents.lean`); the counter read is that of the clock of the effect.
-/

namespace Sys2Proof.Machine

/-- RDTSC (rules R323, R324; log 31). -/
def execRdtsc (s : State) : Result :=
  if s.core.tsd ∧ s.core.cpl ≠ 0 then raiseGp s else .next (s.result s.perf.tsc)

/-- The checks of RDPMC before its selector: it exists on `PMMX` only, and outside CPL 0 it needs CR4.PCE (rules R340,
R341, R467; log 30). -/
def rdpmcAllowed (s : State) (k : Result) : Result :=
  match s.cfg.variant with
  | .p => raiseUd s
  | .pmmx => if s.core.cpl ≠ 0 ∧ s.core.pce = false then raiseGp s else k

/-- RDPMC of counter 0: the count with zeros above (rule R340). -/
def execRdpmcCtr0 (s : State) : Result := rdpmcAllowed s (.next (s.result (s.perf.ctr0.setWidth 64)))

/-- RDPMC of counter 1 (rule R340). -/
def execRdpmcCtr1 (s : State) : Result := rdpmcAllowed s (.next (s.result (s.perf.ctr1.setWidth 64)))

/-- RDPMC with a selector other than 0 and 1 (rule R342, D35; log 30). -/
def execRdpmcOther (_ecx : Word) (s : State) : Result := rdpmcAllowed s (raiseGp s)

/-- RDPMC (rule R340). -/
def execRdpmc (s : State) : Result :=
  if s.core.ecx = 0 then execRdpmcCtr0 s
  else if s.core.ecx = 1 then execRdpmcCtr1 s
  else execRdpmcOther s.core.ecx s

/-- RDPMC on `P`: an invalid opcode (rule R341). On `PMMX` this row does not exist. -/
def execRdpmcOnP (s : State) : Result :=
  match s.cfg.variant with
  | .p => raiseUd s
  | .pmmx => .refused .notOnVariant

end Sys2Proof.Machine
end

