-- ==== Sys2Proof/Machine/Dispatch.lean ====
section
/-!
DEFINITION. The dispatch: one arm for every constructor of Instr, each one call of the instruction's meaning.
-/

namespace Sys2Proof.Machine

def exec (i : Instr) (s : State) : Host.Outcome State Fault Refusal :=
  match i with
  | .wrmsr => Sys2Proof.Machine.execWrmsr s
  | .rdtsc => Sys2Proof.Machine.execRdtsc s
  | .rdmsr => Sys2Proof.Machine.execRdmsr s
  | .rdpmc => Sys2Proof.Machine.execRdpmc s
  | .rdpmcOnP => Sys2Proof.Machine.execRdpmcOnP s
  | .cpuid => Sys2Proof.Machine.execCpuid s
  | .movImm r imm => Sys2Proof.Machine.execMovImm r imm s
  | .orEaxImm imm => Sys2Proof.Machine.execOrEaxImm imm s
  | .andEaxImm imm => Sys2Proof.Machine.execAndEaxImm imm s
  | .xorSame r => Sys2Proof.Machine.execXorSame r s
  | .hlt => Sys2Proof.Machine.execHlt s
  | .rdmsrMca => Sys2Proof.Machine.execRdmsrMca s
  | .wrmsrMca => Sys2Proof.Machine.execWrmsrMca s
  | .rdmsrMct => Sys2Proof.Machine.execRdmsrMct s
  | .wrmsrMct => Sys2Proof.Machine.execWrmsrMct s
  | .rdmsrTr1 => Sys2Proof.Machine.execRdmsrTr1 s
  | .wrmsrTr1 => Sys2Proof.Machine.execWrmsrTr1 s
  | .rdmsrTr2 => Sys2Proof.Machine.execRdmsrTr2 s
  | .wrmsrTr2 => Sys2Proof.Machine.execWrmsrTr2 s
  | .rdmsrTr3 => Sys2Proof.Machine.execRdmsrTr3 s
  | .wrmsrTr3 => Sys2Proof.Machine.execWrmsrTr3 s
  | .rdmsrTr4 => Sys2Proof.Machine.execRdmsrTr4 s
  | .wrmsrTr4 => Sys2Proof.Machine.execWrmsrTr4 s
  | .rdmsrTr5 => Sys2Proof.Machine.execRdmsrTr5 s
  | .wrmsrTr5 => Sys2Proof.Machine.execWrmsrTr5 s
  | .rdmsrTr6 => Sys2Proof.Machine.execRdmsrTr6 s
  | .wrmsrTr6 => Sys2Proof.Machine.execWrmsrTr6 s
  | .rdmsrTr7 => Sys2Proof.Machine.execRdmsrTr7 s
  | .wrmsrTr7 => Sys2Proof.Machine.execWrmsrTr7 s
  | .rdmsrTr9 => Sys2Proof.Machine.execRdmsrTr9 s
  | .wrmsrTr9 => Sys2Proof.Machine.execWrmsrTr9 s
  | .rdmsrTr10 => Sys2Proof.Machine.execRdmsrTr10 s
  | .wrmsrTr10 => Sys2Proof.Machine.execWrmsrTr10 s
  | .rdmsrTr11 => Sys2Proof.Machine.execRdmsrTr11 s
  | .wrmsrTr11 => Sys2Proof.Machine.execWrmsrTr11 s
  | .rdmsrTr12 => Sys2Proof.Machine.execRdmsrTr12 s
  | .wrmsrTr12 => Sys2Proof.Machine.execWrmsrTr12 s
  | .rdmsrTsc => Sys2Proof.Machine.execRdmsrTsc s
  | .wrmsrTsc => Sys2Proof.Machine.execWrmsrTsc s
  | .rdmsrCesr => Sys2Proof.Machine.execRdmsrCesr s
  | .wrmsrCesr => Sys2Proof.Machine.execWrmsrCesr s
  | .rdmsrCtr0 => Sys2Proof.Machine.execRdmsrCtr0 s
  | .wrmsrCtr0 => Sys2Proof.Machine.execWrmsrCtr0 s
  | .rdmsrCtr1 => Sys2Proof.Machine.execRdmsrCtr1 s
  | .wrmsrCtr1 => Sys2Proof.Machine.execWrmsrCtr1 s
  | .rdmsrReserved03 => Sys2Proof.Machine.execRdmsrReserved03 s
  | .wrmsrReserved03 => Sys2Proof.Machine.execWrmsrReserved03 s
  | .rdmsrReserved04 => Sys2Proof.Machine.execRdmsrReserved04 s
  | .wrmsrReserved04 => Sys2Proof.Machine.execWrmsrReserved04 s
  | .rdmsrReserved0A => Sys2Proof.Machine.execRdmsrReserved0A s
  | .wrmsrReserved0A => Sys2Proof.Machine.execWrmsrReserved0A s
  | .rdmsrReserved0F => Sys2Proof.Machine.execRdmsrReserved0F s
  | .wrmsrReserved0F => Sys2Proof.Machine.execWrmsrReserved0F s
  | .rdmsrReservedAbove ecx => Sys2Proof.Machine.execRdmsrReservedAbove ecx s
  | .wrmsrReservedAbove ecx => Sys2Proof.Machine.execWrmsrReservedAbove ecx s
  | .rdpmcCtr0 => Sys2Proof.Machine.execRdpmcCtr0 s
  | .rdpmcCtr1 => Sys2Proof.Machine.execRdpmcCtr1 s
  | .rdpmcOther ecx => Sys2Proof.Machine.execRdpmcOther ecx s
  | .tr5Normal buffer set entry cd wb => Sys2Proof.Machine.execTr5Normal buffer set entry cd wb s
  | .tr5WriteCode buffer set entry wb => Sys2Proof.Machine.execTr5WriteCode buffer set entry wb s
  | .tr5WriteData buffer set entry wb => Sys2Proof.Machine.execTr5WriteData buffer set entry wb s
  | .tr5ReadCode buffer set entry wb => Sys2Proof.Machine.execTr5ReadCode buffer set entry wb s
  | .tr5ReadData buffer set entry wb => Sys2Proof.Machine.execTr5ReadData buffer set entry wb s
  | .tr5FlushCode buffer set entry wb => Sys2Proof.Machine.execTr5FlushCode buffer set entry wb s
  | .tr5FlushDataAll buffer set entry => Sys2Proof.Machine.execTr5FlushDataAll buffer set entry s
  | .tr5FlushDataLine buffer set entry => Sys2Proof.Machine.execTr5FlushDataLine buffer set entry s
  | .tr6WriteCode la v d u w ps => Sys2Proof.Machine.execTr6WriteCode la v d u w ps s
  | .tr6WriteData la v d u w ps => Sys2Proof.Machine.execTr6WriteData la v d u w ps s
  | .tr6ReadCode la v d u w ps => Sys2Proof.Machine.execTr6ReadCode la v d u w ps s
  | .tr6ReadData la v d u w ps => Sys2Proof.Machine.execTr6ReadData la v d u w ps s
  | .tr11Normal btype set bank way => Sys2Proof.Machine.execTr11Normal btype set bank way s
  | .tr11Write btype set bank way => Sys2Proof.Machine.execTr11Write btype set bank way s
  | .tr11ReadData btype set bank way => Sys2Proof.Machine.execTr11ReadData btype set bank way s
  | .tr11Flush btype set bank way => Sys2Proof.Machine.execTr11Flush btype set bank way s
  | .tr11ReadTag btype set bank way => Sys2Proof.Machine.execTr11ReadTag btype set bank way s
  | .tr11Reserved4 btype set bank way => Sys2Proof.Machine.execTr11Reserved4 btype set bank way s
  | .tr11Reserved6 btype set bank way => Sys2Proof.Machine.execTr11Reserved6 btype set bank way s
  | .tr11Reserved7 btype set bank way => Sys2Proof.Machine.execTr11Reserved7 btype set bank way s

end Sys2Proof.Machine
end

