-- ==== Sys2Proof/Machine/Turns.lean ====
section
/-!
DEFINITION. The turns of a step (rules R13, R14, R286): the core's instruction between the clocks it takes, the move of
another agent, and the microcode parity check before either.
-/

namespace Sys2Proof.Machine

/-- An instruction between the clocks of its step (rule R325). A fault ends the run without a state, so what the step
did before it, a parity error of the microcode or of the fetch with NS = 1 among it, is not seen (log 27). An
instruction whose read shuts the machine down counts once in event 22 all the same, and the clocks after it pass (DESIGN
CHOICE, log 15). -/
def executeInstruction (i : Instr) (s : State) : Result :=
  match exec i (beforeInstruction s) with
  | .next t => .next (afterInstruction s.draws t)
  | .fault f => .fault f
  | .refused r => .refused r

/-- The core fetches and executes the instruction at its instruction pointer (rules R13, R110, R325). -/
def runInstruction (s : State) : Result :=
  match decodeAt s with
  | .error e => .refused (.undecodable e)
  | .ok i => fetched (instrLength i) (executeInstruction i) s

/-- The core's turn: idle in the HALT state (rule R477), nothing in shutdown (rule R470), else an instruction. -/
def coreTurn (s : State) : Result :=
  match s.run with
  | .shutdown => .fault .shutdown
  | .halted => .next (idleClocks s)
  | .running => runInstruction s

/-- A turn taken. The source does not say what the IA-32 core does in the HALT state (rule R477): the model lets its turns
run there too (`loadCr0`, `loadCr3`, `loadCr4`, `loadDr`, `changeCpl`, `takenBranch`), with their effect and their count
in event 22 or of taken branches, and the machine stays halted (DESIGN CHOICE, log 16). So it is with the pins and the
background: FLUSH# (rule R473), a machine check (rule R463) and the accesses are serviced in the HALT state, and but for
RESET the machine stays halted or, with NS = 0, a bad granule shuts it down (DESIGN CHOICE, log 16). -/
def takeTurn (turn : Turn) (s : State) : Result :=
  match turn with
  | .core => coreTurn s
  | .agent a => drained 0 (agentMove a s)

/-- A step whose turn is `turn`. Only RESET leaves shutdown (rule R470, D38). Every other step evaluates the microcode
parity check, then takes its turn (rule R286). RESET evaluates none: it ends a pending error (DESIGN CHOICE, log 27). -/
def stepTurn (turn : Turn) (s : State) : Result :=
  match turn with
  | .agent .reset => takeTurn (.agent .reset) s
  | turn => if s.run = .shutdown then .fault .shutdown else afterMicrocodeCheck (takeTurn turn) s

end Sys2Proof.Machine
end

