-- ==== Sys2Proof/Machine/Step.lean ====
section
/-!
DEFINITION. The step (rules R13, R14, R106). And how the host places an instruction.
-/

namespace Sys2Proof.Machine

/-- One step of the machine: the turn at the head of the agenda, or, with an empty agenda, the core's. No step adds a
turn: the agents of a run move where the agenda it starts with says (log 17). -/
def step (s : State) : Host.Outcome State Fault Refusal := stepTurn s.nextTurn s.turnTaken

/-- The state with an instruction of the opcode table where `step` fetches its next one (log 37): its bytes at EIP in
code memory, and the value of ECX and EDX:EAX it is executed with. -/
def State.withFetchWord (s : State) (nbits w : Nat) : State :=
  match tableWord nbits w with
  | .bytes bs => s.withCode (writeBytes s.code s.core.eip.toNat bs)
  | .index ecx =>
    (s.withCode (writeBytes s.code s.core.eip.toNat (opcode 0x32 ++ [0, 0, 0]))).withCore { s.core with ecx := ecx }
  | .command ecx v =>
    (s.withCode (writeBytes s.code s.core.eip.toNat (opcode 0x30 ++ [0, 0, 0]))).withCore
      { s.core with ecx := ecx, edx := highHalf v, eax := lowHalf v }

end Sys2Proof.Machine
end

