-- ==== Sys2Proof/Safety.lean ====
section
/-!
DEFINITION. The terms statements use: the invariant of the machine's data, what an outcome is, and which parts of a
state a step leaves as they were.
-/

namespace Sys2Proof.Machine

/-! ### The canonical form -/

/-- The keys of a cache's lines name ways the variant has (rules R8, R60). -/
abbrev waysExist {α : Type} (v : Variant) (m : Sparse α) : Prop := ∀ p ∈ m, p.1 % 4 < v.cacheWays

/-- The caches are in canonical form: 128 sets, the variant's ways (rules R60, R61). -/
abbrev Caches.Canonical (v : Variant) (c : Caches) : Prop :=
  Sparse.Canonical CodeLine.empty 512 c.icache ∧ waysExist v c.icache ∧ Sparse.Canonical 0 128 c.icacheLru ∧
  Sparse.Canonical DataLine.empty 512 c.dcache ∧ waysExist v c.dcache ∧ Sparse.Canonical 0 128 c.dcacheLru

/-- The TLBs are in canonical form: 32, 64 and 8 entries, 8, 16 and 2 sets (rules R63, R64, R234). -/
abbrev Tlbs.Canonical (t : Tlbs) : Prop :=
  Sparse.Canonical TlbEntry.empty 32 t.code ∧ Sparse.Canonical TlbEntry.empty 64 t.data ∧
  Sparse.Canonical TlbEntry.empty 8 t.data4M ∧ Sparse.Canonical 0 8 t.codeLru ∧ Sparse.Canonical 0 16 t.dataLru ∧
  Sparse.Canonical 0 2 t.data4MLru

/-- Every array and memory of the machine is in canonical form, within the size the spec gives it. -/
abbrev State.Canonical (s : State) : Prop :=
  s.caches.Canonical s.cfg.variant ∧ s.tlbs.Canonical ∧ Sparse.Canonical BtbEntry.empty 256 s.btb ∧
  Memory.wf s.mem ∧ Memory.wf s.code

/-- The tags of TR4 and of the cache lines have `CACHE_TAG_BITS` bits (rules R9, R33, R60, R61). -/
abbrev State.TagsFit (s : State) : Prop :=
  s.cacheTest.tr4.tag.toNat < 2 ^ s.cfg.cacheTagBits ∧
  (∀ p ∈ s.caches.icache, p.2.tag.toNat < 2 ^ s.cfg.cacheTagBits) ∧
  (∀ p ∈ s.caches.dcache, p.2.tag.toNat < 2 ^ s.cfg.cacheTagBits)

/-- The fields that have another width on the other variant hold no bit beyond their own (rules R8, R33, R35, R36, R40,
R41, R43, R45, R65): on `P` the LRU bits of the caches and of TR4, the entries of TR5 and TR7, the history, offset,
prediction and type of the BTB, TR9[5:2], TR11[31:12] and TR12[20:19]; on `PMMX` the LRU bits of TR7 and the tag of the BTB. -/
abbrev State.FieldsFit (s : State) : Prop :=
  s.TagsFit ∧
  match s.cfg.variant with
  | .p =>
    s.cacheTest.tr4.lru.toNat < 2 ∧ s.cacheTest.tr5.entry.toNat < 2 ∧ s.tlbTest.tr7.entry.toNat < 4 ∧
    (∀ p ∈ s.caches.icacheLru, p.2.toNat < 2) ∧ (∀ p ∈ s.caches.dcacheLru, p.2.toNat < 2) ∧
    (∀ p ∈ s.btb, p.2.history.toNat < 4 ∧ p.2.offset = 0 ∧ p.2.prediction = false ∧ p.2.btype = 0) ∧
    s.btbTest.tr9.extractLsb' 2 4 = 0 ∧ s.btbTest.tr11.toNat < 2 ^ 12 ∧ s.tr12.extractLsb' 19 2 = 0
  | .pmmx => s.tlbTest.tr7.lru = 0 ∧ ∀ p ∈ s.btb, p.2.tag.toNat < 2 ^ 24

/-! ### Outcomes -/

/-- The outcome is a general protection fault of the instruction at `EIP` (rule R461). -/
def FaultsGp (s : State) (r : Result) : Prop := r = .fault (.raised 13 (some 0) s.core.eip)

/-- The outcome is an invalid opcode fault of the instruction at `EIP` (rule R462). -/
def FaultsUd (s : State) (r : Result) : Prop := r = .fault (.raised 6 none s.core.eip)

/-! ### Frames -/

/-- The parts of a state. -/
inductive Part where
  | core | machineCheck | parity | cacheTest | tlbTest | tlbSequence | btbTest | tr12 | perf | caches | tlbs | btb | memory | code
  | run | pins | trace | occurred | agenda | draws
  deriving DecidableEq, Repr

/-- A part of `t` is as it is in `s`. Memory is compared byte by byte. -/
def Part.kept (s t : State) : Part → Prop
  | .core => t.core = s.core
  | .machineCheck => t.mca = s.mca ∧ t.mct = s.mct
  | .parity => t.parity = s.parity
  | .cacheTest => t.cacheTest = s.cacheTest
  | .tlbTest => t.tlbTest = s.tlbTest
  | .tlbSequence => t.tlbSequence = s.tlbSequence
  | .btbTest => t.btbTest = s.btbTest
  | .tr12 => t.tr12 = s.tr12
  | .perf => t.perf = s.perf
  | .caches => t.caches = s.caches
  | .tlbs => t.tlbs = s.tlbs
  | .btb => t.btb = s.btb
  | .memory => ∀ a, readByte t.mem a = readByte s.mem a
  | .code => ∀ a, readByte t.code a = readByte s.code a
  | .run => t.run = s.run
  | .pins => t.pins = s.pins
  | .trace => t.trace = s.trace
  | .occurred => t.occurred = s.occurred
  | .agenda => t.agenda = s.agenda
  | .draws => t.draws = s.draws

/-- Everything is kept but the parts named; the configuration always is. -/
def KeptBut (parts : List Part) (s t : State) : Prop := t.cfg = s.cfg ∧ ∀ p, p ∉ parts → p.kept s t

/-- The registers of the core. -/
inductive CoreReg where
  | eax | ecx | edx | ebx | esp | ebp | esi | edi | eip | cpl | cr0 | cr3 | cr4 | dr0 | dr1 | dr2 | dr3
  deriving DecidableEq, Repr

/-- A register of `d` is as it is in `c`. -/
def CoreReg.kept (c d : Core) : CoreReg → Prop
  | .eax => d.eax = c.eax
  | .ecx => d.ecx = c.ecx
  | .edx => d.edx = c.edx
  | .ebx => d.ebx = c.ebx
  | .esp => d.esp = c.esp
  | .ebp => d.ebp = c.ebp
  | .esi => d.esi = c.esi
  | .edi => d.edi = c.edi
  | .eip => d.eip = c.eip
  | .cpl => d.cpl = c.cpl
  | .cr0 => d.cr0 = c.cr0
  | .cr3 => d.cr3 = c.cr3
  | .cr4 => d.cr4 = c.cr4
  | .dr0 => d.dr0 = c.dr0
  | .dr1 => d.dr1 = c.dr1
  | .dr2 => d.dr2 = c.dr2
  | .dr3 => d.dr3 = c.dr3

/-- Every register of the core is kept but those named. -/
def CoreKeptBut (regs : List CoreReg) (s t : State) : Prop := ∀ r, r ∉ regs → r.kept s.core t.core

/-- The register a helper instruction names, among the core's registers. -/
def regName : Reg → CoreReg
  | .eax => .eax
  | .ecx => .ecx
  | .edx => .edx

/-- The instruction pointer moved past an instruction of `n` bytes, where the spec says so: below 2^32 (rule R21). -/
def EipPast (n : Nat) (s t : State) : Prop :=
  s.core.eip.toNat + n < 2 ^ 32 → t.core.eip.toNat = s.core.eip.toNat + n

/-- The conditions of a cache test procedure on the state: `CR0.CD` = `CR0.NW` = 1 (rule R182; bits 30 and 29). -/
abbrev CacheTestSet (s : State) : Prop := s.core.cr0.getLsbD 30 = true ∧ s.core.cr0.getLsbD 29 = true

/-- The conditions of a TLB test procedure, as far as a state shows them: normal operation has neither filled a TLB inside
the sequence nor used an entry under test (rule R222; log 13). -/
abbrev TlbTestSet (s : State) : Prop := s.tlbSequence.broken = false

/-- The condition of a BTB test procedure: `TR12.NBP` = 1 (rule R252). -/
abbrev BtbTestSet (s : State) : Prop := s.tr12.getLsbD 0 = true

/-- No bit that is reserved in a register is one in a value (rule R24 b). -/
def NoReservedOne (c : Config) (m : Msr) (v : Quad) : Prop :=
  ∀ n, v.getLsbD n = true → (msrMask c m).getLsbD n = true

/-- A data cache line has good parity: its tag and every byte (rule R66). -/
abbrev DataLine.GoodParity (l : DataLine) : Prop := l.badTag = false ∧ ∀ k, portion l.badByte k = 0

/-- The core has the turn: the agenda is empty, or its turn is at the head (rule R14; log 17). -/
def CoreTurn (s : State) : Prop := s.agenda = [] ∨ s.agenda.head? = some .core

/-- Position `n` of register `m` is reserved, as the tables of its rule have it (rules R30 to R33, R36, R38, R40 to R43,
R45, R47, R50); where the source leaves the positions open, it is one no field of the layout takes. -/
def ReservedBit (c : Config) (m : Msr) (n : Nat) : Prop :=
  match m with
  | .mca | .mct | .tsc => False
  | .tr1 => 14 ≤ n
  | .tr2 => 4 ≤ n
  | .tr3 | .tr10 => 32 ≤ n
  | .tr4 => n ∉ c.tr4.tag ++ c.tr4.lru ++ c.tr4.valid
  | .tr5 => n ∉ c.tr5.cntl ++ c.tr5.buffer ++ c.tr5.set ++ c.tr5.entry ++ c.tr5.cd ++ c.tr5.wb
  | .tr6 => n ∉ bitRange 31 12 ++ c.tr6.v ++ c.tr6.d ++ c.tr6.u ++ c.tr6.w ++ c.tr6.ps ++ c.tr6.cd ++ c.tr6.op
  | .tr7 => n ∉ c.tr7.pa ++ c.tr7.pcd ++ c.tr7.pwt ++ c.tr7.lru ++ c.tr7.h ++ c.tr7.entry
  | .tr9 => 32 ≤ n ∨ (c.variant = .p ∧ 2 ≤ n ∧ n ≤ 5)
  | .tr11 => 32 ≤ n ∨ n = 4 ∨ n = 5 ∨
    (match c.variant with
     | .p => 12 ≤ n
     | .pmmx => (13 ≤ n ∧ n ≤ 23) ∨ 26 ≤ n)
  | .tr12 => (4 ≤ n ∧ n ≤ 7) ∨ (10 ≤ n ∧ n ≤ 18) ∨ 21 ≤ n ∨ (c.variant = .p ∧ (n = 19 ∨ n = 20))
  | .cesr => n ∉ c.cesr.es0 ++ c.cesr.cc0 ++ c.cesr.pc0 ++ c.cesr.es1 ++ c.cesr.cc1 ++ c.cesr.pc1
  | .ctr0 | .ctr1 => 40 ≤ n

/-- A fetch at `a` finds one code cache line of good parity, or no line in either cache. -/
def QuietFetch (s : State) (a : Word) : Prop :=
  (codeHits a s = [] ∧ dataHits a s = []) ∨
  ∃ k, codeHits a s = [k] ∧ (s.caches.codeLine k).badTag = false ∧ (s.caches.codeLine k).badData = 0

/-- An instruction of the unit that writes `EDX:EAX`, uses up at most free values, and moves past its two bytes. -/
def OnlyEdxEax (s t : State) : Prop :=
  CoreKeptBut [.eax, .edx, .eip] s t ∧ KeptBut [.core, .draws] s t ∧ EipPast 2 s t

/-- A two-byte instruction that changes, of the core, only the instruction pointer, and otherwise only the parts
named. -/
def OnlyParts (parts : List Part) (s t : State) : Prop :=
  CoreKeptBut [.eip] s t ∧ KeptBut (.core :: parts) s t ∧ EipPast 2 s t

/-- The value `EDX:EAX` as a number, `EDX` the high half (rule R102 a). -/
def edxEaxNat (s : State) : Nat := s.core.edx.toNat * 2 ^ 32 + s.core.eax.toNat

end Sys2Proof.Machine
end

