-- ==== Sys2Proof/Certificates/Slice0/Obligations.lean ====
section
/-!
DEFINITION. The statements for the provers. `OBLIGATIONS.json` gives each its tier, its title and the rules it rests
on. "The `n`-th bit", "the value as a number" and byte addresses are spelled out, so that a statement does not repeat
the definition it is about.
-/

open Sys2Proof Sys2Proof.Machine

/-! ### Encoding -/

/-- Decoding the encoding of a well-formed instruction gives the instruction back, on both variants and under every
layout the source allows (rules R131 to R138). -/
def Obligations.DecodeOfEncode : Prop :=
  ∀ (c : Config) (i : Instr), c.check = true → i.check c = true → decode c (encode c i) = .ok i

/-- Bytes that decode begin with the encoding of the instruction decoded: each byte sequence has one reading (rules
R131 to R135). -/
def Obligations.EncodeOfDecodedBytes : Prop :=
  ∀ (c : Config) (bs : List Byte) (i : Instr),
    decodeBytes c.variant bs = .ok i → ∃ rest, bs = (encode c i).bytes ++ rest

/-- A few words written out from the encoding tables decode to the instruction they stand for (rules R132, R134, R136,
R137). -/
def Obligations.SampleWordsDecode : Prop :=
  decodeBytes .pmmx [0x0F, 0x30] = .ok .wrmsr ∧ decodeBytes .pmmx [0x0F, 0x31] = .ok .rdtsc ∧
  decodeBytes .pmmx [0x0F, 0x33] = .ok .rdpmc ∧ decodeBytes .p [0x0F, 0x33] = .ok .rdpmcOnP ∧
  decodeBytes .p [0xB9, 0x11, 0, 0, 0] = .ok (.movImm .ecx 0x11) ∧
  decodeBytes .p [0x31, 0xD2] = .ok (.xorSame .edx) ∧
  decode (Config.suggested .p) { bytes := [0x0F, 0x32], ecx := some 0x04 } = .ok .rdmsrTr2 ∧
  decode (Config.suggested .pmmx) { bytes := [0x0F, 0x32], ecx := some 0x04 } = .ok .rdmsrReserved04 ∧
  decode (Config.suggested .pmmx) { bytes := [0x0F, 0x30], ecx := some 0x0D, value := some 0x02000345 } =
    .ok (.tr11Write 2 3 1 1)

/-! ### The machine -/

/-- A step runs the decoded instruction: when the core of a running machine has the turn and no microcode error is
pending, the step fetches the instruction its bytes decode to and then is `exec` of it, on the state after the clocks
that come before the effect, followed by the clocks after it (rules R13, R325). The fetch is a code access (rule
R110), with three outcomes: the instruction runs, and the fetch may have changed the caches, memory and the parity
error summary; with NS = 0 a bad granule ends the step in shutdown; or the fetch finds two lines of the code cache and
the step is refused as `cacheDoubleHit` (rule R189 a; log 43). It changes nothing where it finds a line of good parity
in the code cache or no line at all: that it checks no line that does not hit is the model's choice (log 26). Bytes
that decode to no instruction are refused (log 34). That the fetch reaches the half lines of the first and the last
byte, and at which address, is the model's choice (log 50), and so it is that a shutdown in it leaves the instruction
unexecuted (log 15). -/
def Obligations.StepRunsDecodedInstruction : Prop :=
  ∀ s : State, s.run = .running → CoreTurn s → s.parity.mcBadPending = false →
    (∀ i, decodeBytes s.cfg.variant (fetchBytes s.code s.core.eip.toNat 5) = .ok i →
      ((∃ u, KeptBut [.parity, .caches, .memory, .trace, .occurred, .draws] s.turnTaken u ∧
          step s = executeInstruction i u) ∨
        (s.parity.bit 1 = false ∧ ∃ u, step s = .next u ∧ u.run = .shutdown ∧ u.core = s.core) ∨
        step s = .refused .cacheDoubleHit) ∧
      (s.core.cr0.getLsbD 31 = false →
        (∀ a ∈ [s.core.eip, s.core.eip + BitVec.ofNat 32 (instrLength i - 1)], QuietFetch s a) →
        ∃ n, step s = executeInstruction i (s.turnTaken.useDraws n))) ∧
    (∀ (i : Instr) (u : State),
      (∀ t, exec i (beforeInstruction u) = .next t → executeInstruction i u = .next (afterInstruction u.draws t)) ∧
      (∀ f, exec i (beforeInstruction u) = .fault f → executeInstruction i u = .fault f) ∧
      (∀ r, exec i (beforeInstruction u) = .refused r → executeInstruction i u = .refused r)) ∧
    (∀ e, decodeBytes s.cfg.variant (fetchBytes s.code s.core.eip.toNat 5) = .error e →
      step s = .refused (.undecodable e)) ∧
    KeptBut [.perf, .draws] s (beforeInstruction s) ∧
    (∀ t : State, KeptBut [.perf, .occurred] t (afterInstruction s.draws t))

/-- Shutdown is terminal but for RESET, whoever has the turn, and a halted machine stays halted while its time stamp
counter counts every clock of the step, at least one (rules R470, R477, R322; that a run goes on in the HALT state is
the model's choice, log 16). The turn of another agent is its move, with what occurred in it counted (log 17), in the
HALT state too (log 16). Both hold while no microcode parity error is pending; `MicrocodeParityError` says what a
pending one does to them. -/
def Obligations.ShutdownAndHaltSteps : Prop :=
  ∀ s : State,
    (s.run = .shutdown → CoreTurn s → step s = .fault .shutdown) ∧
    (s.run = .shutdown → ∀ a rest, s.agenda = .agent a :: rest → a ≠ .reset → step s = .fault .shutdown) ∧
    (∀ rest, s.agenda = .agent .reset :: rest → ∃ t, step s = .next t ∧ t.run = .running ∧ t.agenda = rest) ∧
    (s.run = .halted → CoreTurn s → s.parity.mcBadPending = false →
      ∃ t k, step s = .next t ∧ 1 ≤ k ∧ t.perf.clock = s.perf.clock + k ∧
        t.perf.tsc.toNat = (s.perf.tsc.toNat + k) % 2 ^ 64 ∧
        KeptBut [.perf, .occurred, .draws] s.turnTaken t) ∧
    (s.run ≠ .shutdown → s.parity.mcBadPending = false → ∀ a rest, s.agenda = .agent a :: rest →
      step s = drained 0 (agentMove a (s.withAgenda rest)))

/-- Two RDTSC in a row read the time stamp counter at the clocks of their effects: the first at a clock after the
start of its step, the second at a later one, at least one clock on, and the values read differ by the clocks between
them, modulo 2^64 (rules R322, R323, R325). The fetches find nothing to report (rule R110). -/
def Obligations.TimeStampCounterGrows : Prop :=
  ∀ s : State, s.run = .running → CoreTurn s → CoreTurn s.turnTaken → s.parity.mcBadPending = false →
    s.core.cr4.getLsbD 2 = false → s.core.cr0.getLsbD 31 = false → s.core.eip.toNat + 4 ≤ 2 ^ 32 - 1 →
    fetchBytes s.code s.core.eip.toNat 2 = [0x0F, 0x31] →
    fetchBytes s.code (s.core.eip.toNat + 2) 2 = [0x0F, 0x31] →
    (∀ n, n < 4 → QuietFetch s (s.core.eip + BitVec.ofNat 32 n)) →
    ∃ t u c d, step s = .next t ∧ step t = .next u ∧
      s.perf.clock < c ∧ c ≤ t.perf.clock ∧ t.perf.clock < d ∧ d ≤ u.perf.clock ∧
      edxEaxNat t = (s.perf.tsc.toNat + (c - s.perf.clock)) % 2 ^ 64 ∧
      edxEaxNat u = (edxEaxNat t + (d - c)) % 2 ^ 64

/-- The canonical form of memory, caches, TLBs and BTB is kept by every step (rules R60 to R65, R100). -/
def Obligations.StepKeepsCanonical : Prop :=
  ∀ s t : State, s.Canonical → step s = .next t → t.Canonical

/-- The fields that have another width on the other variant hold no bit beyond their own after any step: the LRU bits
of the caches and of TR4, the entries of TR5 and TR7, the LRU bits of TR7, TR9[5:2], TR11[31:12] and TR12[20:19], and
the tag, history, offset, prediction and type of the BTB; and tags have `CACHE_TAG_BITS` bits (rules R8, R9, R33, R35,
R36, R40, R41, R43, R45, R65). -/
def Obligations.StepKeepsFieldsFit : Prop :=
  ∀ s t : State, s.cfg.check = true → s.FieldsFit → step s = .next t → t.FieldsFit

/-- No step changes the configuration or code memory, and once the PM pins have their performance monitoring function
they keep it (D1; rules R9, R338). From the breakpoint function RESET gives it back (rule R80); that no step gives the
breakpoint function is the model's choice (log 33). -/
def Obligations.StepKeepsConfigAndCode : Prop :=
  ∀ s t : State, step s = .next t → t.cfg = s.cfg ∧ t.code = s.code ∧
    (s.pins = .performanceMonitoring → t.pins = .performanceMonitoring)

/-! ### CPUID, the helper instructions, RDTSC, RDPMC -/

/-- MOV r32, imm32 and XOR r32, r32 write their register; OR and AND with an immediate work on EAX bit by bit (rules
R170 to R173). No status flag is in the state (log 35). -/
def Obligations.HelperInstructionResults : Prop :=
  ∀ (s : State) (r : Reg) (imm : Word),
    (∃ t, exec (.movImm r imm) s = .next t ∧ t.core.read r = imm ∧ EipPast 5 s t ∧
      CoreKeptBut [regName r, .eip] s t ∧ KeptBut [.core] s t) ∧
    (∃ t, exec (.xorSame r) s = .next t ∧ t.core.read r = 0 ∧ EipPast 2 s t ∧
      CoreKeptBut [regName r, .eip] s t ∧ KeptBut [.core] s t) ∧
    (∃ t, exec (.orEaxImm imm) s = .next t ∧
      (∀ n, t.core.eax.getLsbD n = (s.core.eax.getLsbD n || imm.getLsbD n)) ∧ EipPast 5 s t ∧
      CoreKeptBut [.eax, .eip] s t ∧ KeptBut [.core] s t) ∧
    (∃ t, exec (.andEaxImm imm) s = .next t ∧
      (∀ n, t.core.eax.getLsbD n = (s.core.eax.getLsbD n && imm.getLsbD n)) ∧ EipPast 5 s t ∧
      CoreKeptBut [.eax, .eip] s t ∧ KeptBut [.core] s t)

/-- CPUID of function 1 reports family 5, the configured model, and the TSC and MSR features; another function is
refused (rules R26, R160). -/
def Obligations.CpuidResult : Prop :=
  ∀ s : State,
    (s.core.eax = 1 →
      ∃ t, exec .cpuid s = .next t ∧ t.core.eax.toNat / 256 % 16 = 5 ∧
        t.core.eax.toNat / 16 % 16 =
          (match s.cfg.variant with | .p => s.cfg.modelP.toNat | .pmmx => s.cfg.modelPmmx.toNat) ∧
        t.core.edx.getLsbD 4 = true ∧ t.core.edx.getLsbD 5 = true ∧ EipPast 2 s t ∧
        CoreKeptBut [.eax, .ebx, .ecx, .edx, .eip] s t ∧ KeptBut [.core, .draws] s t) ∧
    (s.core.eax ≠ 1 → exec .cpuid s = .refused (.cpuidFunction s.core.eax))

/-- HLT enters the HALT state at CPL 0 and is a general protection fault elsewhere (rules R174, R461, R477; that a run
goes on in the HALT state is the model's choice, log 16). -/
def Obligations.HltResult : Prop :=
  ∀ s : State,
    (s.core.cpl = 0 →
      ∃ t, exec .hlt s = .next t ∧ t.run = .halted ∧ EipPast 1 s t ∧ CoreKeptBut [.eip] s t ∧
        KeptBut [.core, .run] s t) ∧
    (s.core.cpl ≠ 0 → FaultsGp s (exec .hlt s))

/-- RDTSC returns the time stamp counter, unless CR4.TSD = 1 outside CPL 0 (rules R323, R324). -/
def Obligations.RdtscResult : Prop :=
  ∀ s : State,
    (s.core.cr4.getLsbD 2 = false ∨ s.core.cpl = 0 →
      ∃ t, exec .rdtsc s = .next t ∧ edxEaxNat t = s.perf.tsc.toNat ∧ OnlyEdxEax s t ∧ t.draws = s.draws) ∧
    (s.core.cr4.getLsbD 2 = true ∧ s.core.cpl ≠ 0 → FaultsGp s (exec .rdtsc s))

/-- RDPMC on `PMMX` returns the 40-bit counter ECX selects, with zeros above, at CPL 0 and elsewhere with CR4.PCE = 1;
it is a general protection fault outside CPL 0 with CR4.PCE = 0, and with a selector other than 0 and 1 (rules R340,
R342). -/
def Obligations.RdpmcResult : Prop :=
  ∀ s : State, s.cfg.variant = .pmmx →
    (s.core.cpl = 0 ∨ s.core.cr4.getLsbD 8 = true →
      (∃ t, exec .rdpmcCtr0 s = .next t ∧ edxEaxNat t = s.perf.ctr0.toNat ∧ OnlyEdxEax s t ∧ t.draws = s.draws ∧
        (s.core.ecx = 0 → exec .rdpmc s = .next t)) ∧
      (∃ t, exec .rdpmcCtr1 s = .next t ∧ edxEaxNat t = s.perf.ctr1.toNat ∧ OnlyEdxEax s t ∧ t.draws = s.draws ∧
        (s.core.ecx = 1 → exec .rdpmc s = .next t))) ∧
    (s.core.cpl ≠ 0 ∧ s.core.cr4.getLsbD 8 = false →
      FaultsGp s (exec .rdpmc s) ∧ FaultsGp s (exec .rdpmcCtr0 s) ∧ FaultsGp s (exec .rdpmcCtr1 s)) ∧
    (∀ ecx : Word, FaultsGp s (exec (.rdpmcOther ecx) s)) ∧
    (2 ≤ s.core.ecx.toNat → FaultsGp s (exec .rdpmc s))

/-- RDPMC on `P` is an invalid opcode at every CPL, whatever ECX holds (rule R341). -/
def Obligations.RdpmcUndefinedOnP : Prop :=
  ∀ (s : State) (ecx : Word), s.cfg.variant = .p →
    FaultsUd s (exec .rdpmcOnP s) ∧ FaultsUd s (exec .rdpmc s) ∧ FaultsUd s (exec .rdpmcCtr0 s) ∧
    FaultsUd s (exec .rdpmcCtr1 s) ∧ FaultsUd s (exec (.rdpmcOther ecx) s)

/-! ### The selection of a register -/

/-- RDMSR, WRMSR and RDPMC are the rows their ECX selects, and WRMSR to a command register is the command of the value
written (rules R136, R137). -/
def Obligations.SelectionIsByEcxAndValue : Prop :=
  ∀ s : State,
    exec .rdmsr s = exec (selectRdmsr s.cfg.variant s.core.ecx) s ∧
    exec .wrmsr s = exec (selectWrmsr s.cfg.variant s.core.ecx) s ∧
    exec .rdpmc s = exec (selectRdpmc s.core.ecx) s ∧
    (∀ i, selectCommand s.cfg s.core.edxEax (selectWrmsr s.cfg.variant s.core.ecx) = .ok i →
      exec .wrmsr s = exec i s)

/-- RDMSR of every register completes at CPL 0 and changes only `EDX:EAX`: as the row of the register, and as RDMSR
with its index in ECX. What a write-only register, MCA or MCT returns is free (rules R22, R23, R28, R29, R36, R161,
R310). -/
def Obligations.RdmsrCompletes : Prop :=
  ∀ (s : State) (m : Msr), s.core.cpl = 0 →
    ((m = .tr2 → s.cfg.variant = .p) → ∃ t, exec (rdmsrRow m) s = .next t ∧ OnlyEdxEax s t) ∧
    (msrOfIndex s.cfg.variant s.core.ecx = some m → ∃ t, exec .rdmsr s = .next t ∧ OnlyEdxEax s t)

/-- WRMSR of a register that starts no command completes at CPL 0 when no reserved bit is written and, for a test
register, the conditions of its test procedure hold: as the row of the register, and as WRMSR with its index in ECX.
`EAX`, `ECX` and `EDX` keep their values (rule R164; for TR7 as far as a state shows them, log 13). -/
def Obligations.WrmsrCompletes : Prop :=
  ∀ (s : State) (m : Msr), s.core.cpl = 0 → m ∉ [Msr.mca, .mct, .tr5, .tr6, .tr11] →
    NoReservedOne s.cfg m s.core.edxEax →
    (m ∈ [Msr.tr2, .tr3, .tr4] → CacheTestSet s) → (m = .tr7 → TlbTestSet s) →
    (m ∈ [Msr.tr9, .tr10] → BtbTestSet s) →
    ((m = .tr2 → s.cfg.variant = .p) → ∃ t, exec (wrmsrRow m) s = .next t ∧
      OnlyParts [.parity, .cacheTest, .tlbTest, .tlbSequence, .btbTest, .tr12, .perf] s t) ∧
    (msrOfIndex s.cfg.variant s.core.ecx = some m → ∃ t, exec .wrmsr s = .next t ∧
      OnlyParts [.parity, .cacheTest, .tlbTest, .tlbSequence, .btbTest, .tr12, .perf] s t)

/-- RDMSR and WRMSR, every register and every command, are a general protection fault outside CPL 0, whatever the
index and the value (rules R162, R167). -/
def Obligations.MsrAccessNeedsCpl0 : Prop :=
  ∀ (s : State) (ecx : Word) (v : Quad), s.core.cpl ≠ 0 →
    FaultsGp s (exec .rdmsr s) ∧ FaultsGp s (exec .wrmsr s) ∧
    FaultsGp s (exec (selectRdmsr s.cfg.variant ecx) s) ∧ FaultsGp s (exec (selectWrmsr s.cfg.variant ecx) s) ∧
    (∀ i, selectCommand s.cfg v (selectWrmsr s.cfg.variant ecx) = .ok i → FaultsGp s (exec i s))

/-- The map of indices to registers (rule R22). The reserved indices are 03h, 0Ah, 0Fh, 14h and above, and 04h on
`PMMX`; an access to one at CPL 0 stops as `RESERVED_MSR_POLICY` says, and each row of an index that is reserved on
the variant does so (rules R163, R165). On `P`, where 04h is TR2, the rows of the reserved index 04h do not exist and
are refused by name whatever the policy: the model's choice, log 36. -/
def Obligations.ReservedIndexStops : Prop :=
  (∀ v : Variant, ∀ p ∈ [(0x00#32, Msr.mca), (0x01, .mct), (0x02, .tr1), (0x05, .tr3), (0x06, .tr4), (0x07, .tr5),
      (0x08, .tr6), (0x09, .tr7), (0x0B, .tr9), (0x0C, .tr10), (0x0D, .tr11), (0x0E, .tr12), (0x10, .tsc),
      (0x11, .cesr), (0x12, .ctr0), (0x13, .ctr1)], msrOfIndex v p.1 = some p.2) ∧
  msrOfIndex .p 0x04 = some .tr2 ∧
  ∀ (s : State) (n : Word), s.core.cpl = 0 →
    (msrOfIndex s.cfg.variant n = none ↔
      n = 0x03 ∨ n = 0x0A ∨ n = 0x0F ∨ 0x14 ≤ n.toNat ∨ (n = 0x04 ∧ s.cfg.variant = .pmmx)) ∧
    (∀ p ∈ [(Instr.rdmsrReserved03, 0x03#32, false), (.wrmsrReserved03, 0x03#32, true),
        (.rdmsrReserved0A, 0x0A#32, false), (.wrmsrReserved0A, 0x0A#32, true),
        (.rdmsrReserved0F, 0x0F#32, false), (.wrmsrReserved0F, 0x0F#32, true)],
      (s.cfg.reservedPolicy = .refuse → exec p.1 s = .refused (.reservedMsr p.2.1 p.2.2)) ∧
      (s.cfg.reservedPolicy = .gpFault → FaultsGp s (exec p.1 s))) ∧
    (0x14 ≤ n.toNat →
      ∀ p ∈ [(Instr.rdmsrReservedAbove n, false), (.wrmsrReservedAbove n, true)],
        (s.cfg.reservedPolicy = .refuse → exec p.1 s = .refused (.reservedMsr n p.2)) ∧
        (s.cfg.reservedPolicy = .gpFault → FaultsGp s (exec p.1 s))) ∧
    (s.cfg.variant = .pmmx →
      ∀ p ∈ [(Instr.rdmsrReserved04, false), (.wrmsrReserved04, true), (.rdmsrTr2, false), (.wrmsrTr2, true)],
        (s.cfg.reservedPolicy = .refuse → exec p.1 s = .refused (.reservedMsr 0x04 p.2)) ∧
        (s.cfg.reservedPolicy = .gpFault → FaultsGp s (exec p.1 s))) ∧
    (s.cfg.variant = .p →
      exec .rdmsrReserved04 s = .refused .notOnVariant ∧ exec .wrmsrReserved04 s = .refused .notOnVariant)

/-- A write with a one in a bit that is reserved in the register has no meaning, whatever else holds at CPL 0 (rules
R24 b, R138, R167): the positions are those of the registers' tables (rules R30 to R50), or those no field of an open
layout takes. So the commands of TR5 and TR11 are refused with an operand that needs such a bit: Entry[1] on `P`, a
branch type, a bank or a control value with its high bit on `P`; a set of 16 or more does not exist on `PMMX` (rules
R36, R43). On `PMMX` the control values 100, 110 and 111 of TR11 are reserved and have no meaning (rules R44, R258).
-/
def Obligations.ReservedOneIsRefused : Prop :=
  ∀ s : State, s.core.cpl = 0 →
    (∀ (m : Msr) (n : Nat), (m = .tr2 → s.cfg.variant = .p) → ReservedBit s.cfg m n →
      s.core.edxEax.getLsbD n = true → exec (wrmsrRow m) s = .refused (.reservedBits m)) ∧
    (∀ (buffer : BitVec 3) (set : BitVec 7) (entry : BitVec 2) (cd wb : Bool),
      s.cfg.variant = .p → 2 ≤ entry.toNat →
      ∀ i ∈ [Instr.tr5Normal buffer set entry cd wb, .tr5WriteCode buffer set entry wb,
        .tr5WriteData buffer set entry wb, .tr5ReadCode buffer set entry wb, .tr5ReadData buffer set entry wb,
        .tr5FlushCode buffer set entry wb, .tr5FlushDataAll buffer set entry, .tr5FlushDataLine buffer set entry],
        exec i s = .refused (.reservedBits .tr5)) ∧
    (∀ (btype : BitVec 2) (set : BitVec 6) (bank way : BitVec 2),
      (tr11Fits s.cfg.variant btype set bank = false →
        ∀ i ∈ [Instr.tr11Normal btype set bank way, .tr11Write btype set bank way, .tr11ReadData btype set bank way,
          .tr11Flush btype set bank way],
          exec i s = .refused (match s.cfg.variant with | .p => .reservedBits .tr11 | .pmmx => .notOnVariant)) ∧
      (s.cfg.variant = .pmmx → BtbTestSet s → set.toNat < 16 →
        exec (.tr11Reserved4 btype set bank way) s = .refused (.btbReservedControl 4) ∧
        exec (.tr11Reserved6 btype set bank way) s = .refused (.btbReservedControl 6) ∧
        exec (.tr11Reserved7 btype set bank way) s = .refused (.btbReservedControl 7)) ∧
      (s.cfg.variant = .p →
        ∀ i ∈ [Instr.tr11ReadTag btype set bank way, .tr11Reserved4 btype set bank way,
          .tr11Reserved6 btype set bank way, .tr11Reserved7 btype set bank way],
          exec i s = .refused (.reservedBits .tr11)))

/-- A write to TR2 to TR7 or TR9 to TR11 outside its test procedure has no meaning, also as one of the commands of
TR5, TR6 and TR11, and a write to MCA or MCT never has one (rules R24 c, R28, R29, R181, R221, R251; D5). TR1 and TR12
have no test procedure (rules R281, R301). When a TLB test procedure is broken is decided from the model's own record
(rule R222; log 13): inside a sequence that a write of TR7 or of an entry opened, a TLB fill by normal operation
breaks it, and so does a lookup that hits an entry under test. With paging off (CR0 bit 31, PRESUMED, log 32) there is
neither fill nor lookup, and the condition on them holds by itself (rule R222, item 4). -/
def Obligations.UnpredictableWritesAreRefused : Prop :=
  ∀ (s : State) (m : Msr), s.core.cpl = 0 → s.cfg.check = true →
    (NoReservedOne s.cfg m s.core.edxEax →
      (m ∈ [Msr.tr3, .tr4, .tr5] ∨ (m = .tr2 ∧ s.cfg.variant = .p) → ¬CacheTestSet s →
        exec (wrmsrRow m) s = .refused (.normalOperation m)) ∧
      (m ∈ [Msr.tr6, .tr7] → ¬TlbTestSet s → exec (wrmsrRow m) s = .refused (.normalOperation m)) ∧
      (m ∈ [Msr.tr9, .tr10, .tr11] → ¬BtbTestSet s → exec (wrmsrRow m) s = .refused (.normalOperation m)) ∧
      (m = .tr5 ∧ ¬CacheTestSet s ∨ m = .tr6 ∧ ¬TlbTestSet s ∨ m = .tr11 ∧ ¬BtbTestSet s →
        ∀ i, selectCommand s.cfg s.core.edxEax (wrmsrRow m) = .ok i → exec i s = .refused (.normalOperation m))) ∧
    (∀ n entry lru e, s.core.cr0.getLsbD 31 = true → s.tlbSequence.active = true →
      ∃ t, agentMove (.tlbFill n entry lru e) s = .next t ∧ ¬TlbTestSet t) ∧
    (s.core.cr0.getLsbD 31 = false → ∀ n entry lru e la,
      agentMove (.tlbFill n entry lru e) s = .next s ∧ agentMove (.tlbLookup n la) s = .next s) ∧
    (∀ n la k, s.core.cr0.getLsbD 31 = true →
      tlbMatches s.cfg.variant s.tlbs (tlbOf s.cfg.variant n) la = [k] →
      (tlbOf s.cfg.variant n, k) ∈ s.tlbSequence.tested →
      ∃ t, agentMove (.tlbLookup n la) s = .next t ∧ ¬TlbTestSet t) ∧
    exec .wrmsrMca s = .refused (.machineCheckWrite .mca) ∧ exec .wrmsrMct s = .refused (.machineCheckWrite .mct)

/-! ### RDMSR of each register -/

/-- RDMSR of TSC, CTR0, CTR1 and CESR, and of TR1, whose bit 0 is PES and which a read does not clear (rules R46, R50,
R288, R331, R332). -/
def Obligations.RdmsrCountersAndTr1 : Prop :=
  ∀ s : State, s.core.cpl = 0 →
    (∃ t, exec .rdmsrTsc s = .next t ∧ edxEaxNat t = s.perf.tsc.toNat ∧ OnlyEdxEax s t) ∧
    (∃ t, exec .rdmsrCtr0 s = .next t ∧ edxEaxNat t = s.perf.ctr0.toNat ∧ OnlyEdxEax s t) ∧
    (∃ t, exec .rdmsrCtr1 s = .next t ∧ edxEaxNat t = s.perf.ctr1.toNat ∧ OnlyEdxEax s t) ∧
    (∃ t, exec .rdmsrCesr s = .next t ∧ t.core.eax = s.perf.cesr ∧ OnlyEdxEax s t) ∧
    (∃ t, exec .rdmsrTr1 s = .next t ∧ t.core.eax.getLsbD 0 = s.parity.pes ∧ t.parity.pes = s.parity.pes ∧
      OnlyEdxEax s t)

/-- RDMSR of the readable test registers returns the fields they hold: TR2 on `P`, TR3, TR4 (whose bits 31:28 read
zero after a testability read), TR6, TR7, TR9, TR10 and TR11 (rules R31 to R33, R199, R229, R259). -/
def Obligations.RdmsrTestRegisters : Prop :=
  ∀ s : State, s.core.cpl = 0 → s.cfg.check = true → s.FieldsFit →
    (s.cfg.variant = .p →
      ∃ t, exec .rdmsrTr2 s = .next t ∧ t.core.eax.toNat % 16 = s.cacheTest.tr2.toNat ∧ OnlyEdxEax s t) ∧
    (∃ t, exec .rdmsrTr3 s = .next t ∧ t.core.eax = s.cacheTest.tr3 ∧ OnlyEdxEax s t) ∧
    (∃ t, exec .rdmsrTr4 s = .next t ∧ unpackTr4 s.cfg t.core.edxEax = s.cacheTest.tr4 ∧
      (s.cacheTest.tr4UpperZero = true → t.core.eax.toNat / 2 ^ 28 = 0) ∧ OnlyEdxEax s t) ∧
    (∃ t, exec .rdmsrTr6 s = .next t ∧ unpackTr6 s.cfg t.core.edxEax = s.tlbTest.tr6 ∧ OnlyEdxEax s t) ∧
    (∃ t, exec .rdmsrTr7 s = .next t ∧ unpackTr7 s.cfg t.core.edxEax = s.tlbTest.tr7 ∧ OnlyEdxEax s t) ∧
    (∃ t, exec .rdmsrTr9 s = .next t ∧ OnlyEdxEax s t ∧
      ∀ n, n < 32 → (s.cfg.variant = .p → n < 2 ∨ 6 ≤ n) →
        t.core.eax.getLsbD n = s.btbTest.tr9.getLsbD n) ∧
    (∃ t, exec .rdmsrTr10 s = .next t ∧ t.core.eax = s.btbTest.tr10 ∧ OnlyEdxEax s t) ∧
    (∃ t, exec .rdmsrTr11 s = .next t ∧ OnlyEdxEax s t ∧
      unpackTr11 s.cfg.variant t.core.edxEax = unpackTr11 s.cfg.variant (s.btbTest.tr11.setWidth 64))

/-! ### WRMSR to each register -/

/-- WRMSR to TR1 sets PES, the reversal bits and `MCPrev`, and a 0 to 1 transition of MC arms one microcode error
(rule R282). -/
def Obligations.WrmsrTr1 : Prop :=
  ∀ s : State, s.core.cpl = 0 → edxEaxNat s < 2 ^ 14 →
    ∃ t, exec .wrmsrTr1 s = .next t ∧ t.parity.pes = s.core.eax.getLsbD 0 ∧
      (∀ n, 1 ≤ n → n ≤ 13 → t.parity.bit n = s.core.eax.getLsbD n) ∧ t.parity.mcPrev = s.core.eax.getLsbD 13 ∧
      t.parity.mcBadPending =
        (s.parity.mcBadPending || (s.core.eax.getLsbD 13 && !s.parity.mcPrev)) ∧
      OnlyParts [.parity] s t

/-- WRMSR to TR3, and on `P` to TR2, sets the register and the portion of the fill buffer, or of the end bit buffer,
that TR5L selects, and no other portion (rules R185, R186). -/
def Obligations.WrmsrTr2AndTr3 : Prop :=
  ∀ s : State, s.core.cpl = 0 → CacheTestSet s →
    (s.core.edx = 0 →
      ∃ t, exec .wrmsrTr3 s = .next t ∧ t.cacheTest.tr3 = s.core.eax ∧
        (∀ k, portion t.cacheTest.fill k =
          if k = s.cacheTest.tr5.buffer then s.core.eax else portion s.cacheTest.fill k) ∧
        t.cacheTest = { s.cacheTest with tr3 := t.cacheTest.tr3, fill := t.cacheTest.fill } ∧
        OnlyParts [.cacheTest] s t) ∧
    (s.cfg.variant = .p → edxEaxNat s < 16 →
      ∃ t, exec .wrmsrTr2 s = .next t ∧ t.cacheTest.tr2.toNat = edxEaxNat s ∧
        (∀ k, portion t.cacheTest.endbuf k =
          if k = s.cacheTest.tr5.buffer then t.cacheTest.tr2 else portion s.cacheTest.endbuf k) ∧
        t.cacheTest = { s.cacheTest with tr2 := t.cacheTest.tr2, endbuf := t.cacheTest.endbuf } ∧
        OnlyParts [.cacheTest] s t)

/-- What WRMSR writes to TR4 or TR7, RDMSR reads back in every defined bit, whatever the registers of the core hold by
then (rules R187, R199, R223, R229). That a TLB test sequence is open after a write of TR7, and that a write in a
broken one is left out, rests on the model's own record (log 13). -/
def Obligations.Tr4AndTr7ReadBack : Prop :=
  ∀ s : State, s.core.cpl = 0 → s.cfg.check = true →
    (CacheTestSet s → NoReservedOne s.cfg .tr4 s.core.edxEax →
      ∃ t, exec .wrmsrTr4 s = .next t ∧ t.cacheTest.tr4 = unpackTr4 s.cfg s.core.edxEax ∧
        t.cacheTest = { s.cacheTest with tr4 := t.cacheTest.tr4, tr4UpperZero := false } ∧
        OnlyParts [.cacheTest] s t ∧
        ∀ c : Core, c.cpl = 0 → ∃ u, exec .rdmsrTr4 (t.withCore c) = .next u ∧
          ∀ n, (msrMask s.cfg .tr4).getLsbD n = true → u.core.edxEax.getLsbD n = s.core.edxEax.getLsbD n) ∧
    (TlbTestSet s → NoReservedOne s.cfg .tr7 s.core.edxEax →
      ∃ t, exec .wrmsrTr7 s = .next t ∧ t.tlbTest.tr7 = unpackTr7 s.cfg s.core.edxEax ∧
        t.tlbTest.tr6 = s.tlbTest.tr6 ∧ t.tlbSequence = { s.tlbSequence with active := true } ∧
        OnlyParts [.tlbTest, .tlbSequence] s t ∧
        ∀ c : Core, c.cpl = 0 → ∃ u, exec .rdmsrTr7 (t.withCore c) = .next u ∧
          ∀ n, (msrMask s.cfg .tr7).getLsbD n = true → u.core.edxEax.getLsbD n = s.core.edxEax.getLsbD n)

/-- WRMSR to TR9, TR10 and TR12 stores the value; WRMSR to TSC, CTR0, CTR1 and CESR replaces that register and no
other, so that a write to CESR does not change the counters (rules R46, R50, R261, R262, R301, R326, R330, R332). -/
def Obligations.WrmsrStoresValue : Prop :=
  ∀ s : State, s.core.cpl = 0 →
    (BtbTestSet s → NoReservedOne s.cfg .tr9 s.core.edxEax →
      ∃ t, exec .wrmsrTr9 s = .next t ∧ t.btbTest = { s.btbTest with tr9 := s.core.eax } ∧
        OnlyParts [.btbTest] s t) ∧
    (BtbTestSet s → s.core.edx = 0 →
      ∃ t, exec .wrmsrTr10 s = .next t ∧ t.btbTest = { s.btbTest with tr10 := s.core.eax } ∧
        OnlyParts [.btbTest] s t) ∧
    (NoReservedOne s.cfg .tr12 s.core.edxEax →
      ∃ t, exec .wrmsrTr12 s = .next t ∧ t.tr12.toNat = edxEaxNat s ∧ OnlyParts [.tr12] s t) ∧
    (∃ t, exec .wrmsrTsc s = .next t ∧ t.perf.tsc.toNat = edxEaxNat s ∧
      t.perf = { s.perf with tsc := t.perf.tsc } ∧ OnlyParts [.perf] s t) ∧
    (s.core.edx.toNat < 2 ^ 8 →
      (∃ t, exec .wrmsrCtr0 s = .next t ∧ t.perf.ctr0.toNat = edxEaxNat s ∧
        t.perf = { s.perf with ctr0 := t.perf.ctr0 } ∧ OnlyParts [.perf] s t) ∧
      (∃ t, exec .wrmsrCtr1 s = .next t ∧ t.perf.ctr1.toNat = edxEaxNat s ∧
        t.perf = { s.perf with ctr1 := t.perf.ctr1 } ∧ OnlyParts [.perf] s t)) ∧
    (NoReservedOne s.cfg .cesr s.core.edxEax →
      ∃ t, exec .wrmsrCesr s = .next t ∧ t.perf = { s.perf with cesr := s.core.eax } ∧ OnlyParts [.perf] s t)

/-- WRMSR to a command register runs the command of the value written to its end: to TR5 always inside a test
procedure; to TR6 inside one when a write finds TR7.H = 1 or a read finds at most one match; to TR11 with a control
value that is not reserved, on `P` unless a write would repeat a valid tag (rules R188, R228, R263). The conditions of
a TLB test are judged by the model's own record (log 13). -/
def Obligations.CommandRegistersRunCommands : Prop :=
  ∀ s : State, s.core.cpl = 0 → s.cfg.check = true →
    (CacheTestSet s → NoReservedOne s.cfg .tr5 s.core.edxEax →
      ∃ i t, selectCommand s.cfg s.core.edxEax .wrmsrTr5 = .ok i ∧ exec .wrmsrTr5 s = .next t ∧
        exec i s = .next t) ∧
    (TlbTestSet s → NoReservedOne s.cfg .tr6 s.core.edxEax →
      ((unpackTr6 s.cfg s.core.edxEax).op = false → s.tlbTest.tr7.h = true) →
      ((unpackTr6 s.cfg s.core.edxEax).op = true →
        (if (unpackTr6 s.cfg s.core.edxEax).cd then
          searchData s.cfg.variant s.tlbs (unpackTr6 s.cfg s.core.edxEax).la
        else searchCode s.cfg.variant s.tlbs (unpackTr6 s.cfg s.core.edxEax).la) ≠ .double) →
      ∃ i t, selectCommand s.cfg s.core.edxEax .wrmsrTr6 = .ok i ∧ exec .wrmsrTr6 s = .next t ∧
        exec i s = .next t) ∧
    (BtbTestSet s → NoReservedOne s.cfg .tr11 s.core.edxEax →
      (unpackTr11 s.cfg.variant s.core.edxEax).control ∉ [4#3, 6#3, 7#3] →
      (s.cfg.variant = .p → (unpackTr11 s.cfg.variant s.core.edxEax).control = 1 →
        validSameTagWays (unpackTr11 s.cfg.variant s.core.edxEax) s = []) →
      ∃ i t, selectCommand s.cfg s.core.edxEax .wrmsrTr11 = .ok i ∧ exec .wrmsrTr11 s = .next t ∧
        exec i s = .next t)

/-! ### Cache test -/

/-- TR5 with `cntl` = 00 latches its fields and touches no array (rule R184). -/
def Obligations.Tr5NormalLatches : Prop :=
  ∀ (s : State) (buffer : BitVec 3) (set : BitVec 7) (entry : BitVec 2) (cd wb : Bool),
    s.core.cpl = 0 → CacheTestSet s → (s.cfg.variant = .p → entry.toNat < 2) →
    ∃ t, exec (.tr5Normal buffer set entry cd wb) s = .next t ∧
      t.cacheTest = { s.cacheTest with tr5 := ⟨0, buffer, set, entry, cd, wb⟩ } ∧ OnlyParts [.cacheTest] s t

/-- A testability write of the code cache stores the fill buffer, the tag, the valid bit, on `P` the end bits, and the
LRU bits, in the line of the set and way TR5 names, with the parity the reversal bits say; every other line, set and
the data cache stay (rules R189, R283). -/
def Obligations.CodeCacheWrite : Prop :=
  ∀ (s : State) (buffer : BitVec 3) (set : BitVec 7) (entry : BitVec 2) (wb : Bool),
    s.core.cpl = 0 → CacheTestSet s → (s.cfg.variant = .p → entry.toNat < 2) → s.FieldsFit →
    ∃ t, exec (.tr5WriteCode buffer set entry wb) s = .next t ∧
      t.cacheTest = { s.cacheTest with tr5 := ⟨1, buffer, set, entry, false, wb⟩ } ∧
      (∀ k, t.caches.codeLine k =
        if k = set.toNat * 4 + entry.toNat then
          { data := s.cacheTest.fill, tag := s.cacheTest.tr4.tag, valid := s.cacheTest.tr4.valid.getLsbD 0
            endbits := if s.cfg.variant = .p then s.cacheTest.endbuf else (s.caches.codeLine k).endbits
            badTag := s.parity.bit 2
            badData := BitVec.ofBool (s.parity.bit 6) ++ BitVec.ofBool (s.parity.bit 5) ++
              BitVec.ofBool (s.parity.bit 4) ++ BitVec.ofBool (s.parity.bit 3) }
        else s.caches.codeLine k) ∧
      (∀ j, t.caches.codeLru j = if j = set then s.cacheTest.tr4.lru else s.caches.codeLru j) ∧
      t.caches.dcache = s.caches.dcache ∧ t.caches.dcacheLru = s.caches.dcacheLru ∧
      OnlyParts [.cacheTest, .caches] s t

/-- The same for the data cache: the state from the two valid bits, the writeback bit from TR5 (rules R34, R190,
R283). -/
def Obligations.DataCacheWrite : Prop :=
  ∀ (s : State) (buffer : BitVec 3) (set : BitVec 7) (entry : BitVec 2) (wb : Bool),
    s.core.cpl = 0 → CacheTestSet s → (s.cfg.variant = .p → entry.toNat < 2) → s.FieldsFit →
    ∃ t, exec (.tr5WriteData buffer set entry wb) s = .next t ∧
      t.cacheTest = { s.cacheTest with tr5 := ⟨1, buffer, set, entry, true, wb⟩ } ∧
      (∃ l : DataLine, l.data = s.cacheTest.fill ∧ l.tag = s.cacheTest.tr4.tag ∧
        mesiBits l.state = s.cacheTest.tr4.valid ∧ l.wb = wb ∧ l.badTag = s.parity.bit 9 ∧
        (∀ k n, n < 4 → (portion l.badByte k).getLsbD n = s.parity.bit 10) ∧
        ∀ k, t.caches.dataLine k = if k = set.toNat * 4 + entry.toNat then l else s.caches.dataLine k) ∧
      (∀ j, t.caches.dataLru j = if j = set then s.cacheTest.tr4.lru else s.caches.dataLru j) ∧
      t.caches.icache = s.caches.icache ∧ t.caches.icacheLru = s.caches.icacheLru ∧
      OnlyParts [.cacheTest, .caches] s t

/-- A testability read of a code cache line of good parity delivers the portion, on `P` its end bits, the tag, the
valid bit and the old or the new LRU bits; no line changes and no other set's LRU bits (rules R191, R192, R199). -/
def Obligations.CodeCacheRead : Prop :=
  ∀ (s : State) (buffer : BitVec 3) (set : BitVec 7) (entry : BitVec 2) (wb : Bool) (l : CodeLine),
    s.core.cpl = 0 → CacheTestSet s → (s.cfg.variant = .p → entry.toNat < 2) →
    l = s.caches.codeLine (set.toNat * 4 + entry.toNat) → l.badTag = false → l.badData = 0 →
    ∃ t, exec (.tr5ReadCode buffer set entry wb) s = .next t ∧
      t.cacheTest.tr3 = portion l.data buffer ∧
      t.cacheTest.tr2 = (if s.cfg.variant = .p then portion l.endbits buffer else s.cacheTest.tr2) ∧
      t.cacheTest.tr4.tag = l.tag ∧ t.cacheTest.tr4.valid.getLsbD 0 = l.valid ∧
      (t.cacheTest.tr4.lru = s.caches.codeLru set ∨ t.cacheTest.tr4.lru = t.caches.codeLru set) ∧
      t.cacheTest.tr4UpperZero = true ∧ t.cacheTest.tr5 = ⟨2, buffer, set, entry, false, wb⟩ ∧
      t.cacheTest.endbuf = s.cacheTest.endbuf ∧
      (∀ k, t.caches.codeLine k = s.caches.codeLine k) ∧
      (∀ j, j ≠ set → t.caches.codeLru j = s.caches.codeLru j) ∧
      t.caches.dcache = s.caches.dcache ∧ t.caches.dcacheLru = s.caches.dcacheLru ∧
      OnlyParts [.cacheTest, .caches, .draws] s t

/-- A testability read of a data cache line of good parity delivers the portion, the tag, the state and the LRU bits;
the caches and TR2 stay as they were (rules R192, R197). -/
def Obligations.DataCacheRead : Prop :=
  ∀ (s : State) (buffer : BitVec 3) (set : BitVec 7) (entry : BitVec 2) (wb : Bool) (l : DataLine),
    s.core.cpl = 0 → CacheTestSet s → (s.cfg.variant = .p → entry.toNat < 2) →
    l = s.caches.dataLine (set.toNat * 4 + entry.toNat) → l.badTag = false → (∀ k, portion l.badByte k = 0) →
    ∃ t, exec (.tr5ReadData buffer set entry wb) s = .next t ∧
      t.cacheTest.tr3 = portion l.data buffer ∧ t.cacheTest.tr4.tag = l.tag ∧
      t.cacheTest.tr4.valid = mesiBits l.state ∧ t.cacheTest.tr4.lru = s.caches.dataLru set ∧
      t.cacheTest.tr4UpperZero = true ∧ t.cacheTest.tr5 = ⟨2, buffer, set, entry, true, wb⟩ ∧
      t.cacheTest.tr2 = s.cacheTest.tr2 ∧ t.cacheTest.endbuf = s.cacheTest.endbuf ∧
      OnlyParts [.cacheTest, .draws] s t

/-- A testability read of a line with bad parity in its tag, in a data group of the half that holds the portion (code
cache) or in a byte of the portion (data cache) sets PES and asserts IERR# (rules R206, R284, R287). With NS = 1 the
read completes with the data as stored; with NS = 0 the machine is in shutdown (rule R470), and that nothing else of
the read happens but that TR5 holds its value is the model's choice (log 15). -/
def Obligations.BadParityIsReported : Prop :=
  ∀ (s : State) (buffer : BitVec 3) (set : BitVec 7) (entry : BitVec 2) (wb : Bool) (key : Nat),
    s.core.cpl = 0 → CacheTestSet s → (s.cfg.variant = .p → entry.toNat < 2) →
    key = set.toNat * 4 + entry.toNat →
    ((s.caches.codeLine key).badTag = true ∨
        (buffer.toNat < 4 ∧ ((s.caches.codeLine key).badData.getLsbD 0 = true ∨
          (s.caches.codeLine key).badData.getLsbD 1 = true)) ∨
        (4 ≤ buffer.toNat ∧ ((s.caches.codeLine key).badData.getLsbD 2 = true ∨
          (s.caches.codeLine key).badData.getLsbD 3 = true)) →
      ∃ t, exec (.tr5ReadCode buffer set entry wb) s = .next t ∧ t.parity = { s.parity with pes := true } ∧
        t.trace = .ierr :: s.trace ∧
        (s.parity.bit 1 = true →
          t.cacheTest.tr3 = portion (s.caches.codeLine key).data buffer ∧
          OnlyParts [.parity, .cacheTest, .caches, .trace, .draws] s t) ∧
        (s.parity.bit 1 = false →
          t.run = .shutdown ∧ t.caches = s.caches ∧
          t.cacheTest = { s.cacheTest with tr5 := ⟨2, buffer, set, entry, false, wb⟩ } ∧
          KeptBut [.parity, .cacheTest, .run, .trace, .draws] s t)) ∧
    ((s.caches.dataLine key).badTag = true ∨ portion (s.caches.dataLine key).badByte buffer ≠ 0 →
      ∃ t, exec (.tr5ReadData buffer set entry wb) s = .next t ∧ t.parity = { s.parity with pes := true } ∧
        t.trace = .ierr :: s.trace ∧
        (s.parity.bit 1 = true →
          t.cacheTest.tr3 = portion (s.caches.dataLine key).data buffer ∧
          OnlyParts [.parity, .cacheTest, .trace, .draws] s t) ∧
        (s.parity.bit 1 = false →
          t.run = .shutdown ∧
          t.cacheTest = { s.cacheTest with tr5 := ⟨2, buffer, set, entry, true, wb⟩ } ∧
          KeptBut [.parity, .cacheTest, .run, .trace, .draws] s t))

/-- A flush of a whole cache makes every line of it invalid; a flush of the data cache writes nothing to memory (rules
R193, R194). That the other fields of the lines stay is the model's reading (log 45); the fill buffer is free
afterwards (U9; log 21). -/
def Obligations.WholeCacheFlush : Prop :=
  ∀ (s : State) (buffer : BitVec 3) (set : BitVec 7) (entry : BitVec 2) (wb : Bool),
    s.core.cpl = 0 → CacheTestSet s → (s.cfg.variant = .p → entry.toNat < 2) → s.Canonical →
    (∃ t, exec (.tr5FlushCode buffer set entry wb) s = .next t ∧
      (∀ k, t.caches.codeLine k = { s.caches.codeLine k with valid := false }) ∧
      t.caches = { s.caches with icache := t.caches.icache } ∧
      t.cacheTest =
        { s.cacheTest with tr5 := ⟨3, buffer, set, entry, false, wb⟩, fill := t.cacheTest.fill } ∧
      OnlyParts [.cacheTest, .caches, .draws] s t) ∧
    (∃ t, exec (.tr5FlushDataAll buffer set entry) s = .next t ∧
      (∀ k, t.caches.dataLine k = { s.caches.dataLine k with state := .invalid }) ∧
      t.caches = { s.caches with dcache := t.caches.dcache } ∧
      t.cacheTest =
        { s.cacheTest with tr5 := ⟨3, buffer, set, entry, true, false⟩, fill := t.cacheTest.fill } ∧
      OnlyParts [.cacheTest, .caches, .draws] s t)

/-- A flush of one data cache line makes that line invalid and no other (rule R195). If it was modified, its 32 bytes
are in memory from the line's address on, the line is an output, and every other byte of memory is as before; else
memory is as before (rule R196). The address is what rule R196 calls an assumption: `tag ++ set ++ 00000b` with the
derived tag width of 20 bits, and else any multiple of 32 (log 20). The fill buffer is free afterwards (U9; log 21).
Whatever the parity of the line, nothing is reported: that this flush checks none is the model's reading (log 26). -/
def Obligations.DataLineFlush : Prop :=
  ∀ (s : State) (buffer : BitVec 3) (set : BitVec 7) (entry : BitVec 2) (l : DataLine) (a : Word),
    s.core.cpl = 0 → CacheTestSet s → (s.cfg.variant = .p → entry.toNat < 2) →
    l = s.caches.dataLine (set.toNat * 4 + entry.toNat) → a = lineAddress s.cfg l.tag set →
    a.toNat % 32 = 0 ∧
    (s.cfg.cacheTagBits = 20 → a.toNat = l.tag.toNat % 2 ^ 20 * 2 ^ 12 + set.toNat * 2 ^ 5) ∧
    ∃ t, exec (.tr5FlushDataLine buffer set entry) s = .next t ∧
      (∀ k, t.caches.dataLine k =
        if k = set.toNat * 4 + entry.toNat then { l with state := .invalid } else s.caches.dataLine k) ∧
      t.caches = { s.caches with dcache := t.caches.dcache } ∧
      t.cacheTest =
        { s.cacheTest with tr5 := ⟨3, buffer, set, entry, true, true⟩, fill := t.cacheTest.fill } ∧
      (l.state = .modified →
        (∀ n, n < 32 →
          readByte t.mem (a.toNat + n) = (portion l.data (BitVec.ofNat 3 (n / 4))).extractLsb' (8 * (n % 4)) 8) ∧
        (∀ b, b < a.toNat ∨ a.toNat + 32 ≤ b → readByte t.mem b = readByte s.mem b) ∧
        t.trace = .memWrite a l.data :: s.trace ∧ t.occurred = s.occurred ++ [.writeback]) ∧
      (l.state ≠ .modified → OnlyParts [.cacheTest, .caches, .draws] s t) ∧
      OnlyParts [.cacheTest, .caches, .memory, .trace, .occurred, .draws] s t

/-- What a testability write stores in a cache line, a testability read of the same line returns, portion by portion,
when no parity is reversed (rules R189 to R191, R197, R200, R201). -/
def Obligations.CacheWriteThenRead : Prop :=
  ∀ (s : State) (k₀ k : BitVec 3) (set : BitVec 7) (entry : BitVec 2) (wb : Bool),
    s.core.cpl = 0 → CacheTestSet s → (s.cfg.variant = .p → entry.toNat < 2) → s.FieldsFit →
    (s.parity.bit 2 = false → s.parity.prrl.extractLsb' 2 4 = 0 →
      ∃ t u, exec (.tr5WriteCode k₀ set entry wb) s = .next t ∧ exec (.tr5ReadCode k set entry wb) t = .next u ∧
        u.cacheTest.tr3 = portion s.cacheTest.fill k ∧ u.cacheTest.tr4.tag = s.cacheTest.tr4.tag ∧
        u.cacheTest.tr4.valid.getLsbD 0 = s.cacheTest.tr4.valid.getLsbD 0 ∧
        (s.cfg.variant = .p → u.cacheTest.tr2 = portion s.cacheTest.endbuf k) ∧ u.parity = s.parity) ∧
    (s.parity.bit 9 = false → s.parity.bit 10 = false →
      ∃ t u, exec (.tr5WriteData k₀ set entry wb) s = .next t ∧ exec (.tr5ReadData k set entry wb) t = .next u ∧
        u.cacheTest.tr3 = portion s.cacheTest.fill k ∧ u.cacheTest.tr4 = s.cacheTest.tr4 ∧ u.parity = s.parity)

/-- The parity test procedure: with a reversal bit of the code or data cache tag set and NS = 1, a testability write
and a testability read of the line end with PES set and IERR# asserted once (rules R283, R287, R289). -/
def Obligations.ReversedParityIsDetected : Prop :=
  ∀ (s : State) (k₀ k : BitVec 3) (set : BitVec 7) (entry : BitVec 2) (wb : Bool),
    s.core.cpl = 0 → CacheTestSet s → (s.cfg.variant = .p → entry.toNat < 2) → s.parity.bit 1 = true →
    (s.parity.bit 2 = true →
      ∃ t u, exec (.tr5WriteCode k₀ set entry wb) s = .next t ∧ exec (.tr5ReadCode k set entry wb) t = .next u ∧
        t.parity = s.parity ∧ u.parity.pes = true ∧ u.trace = .ierr :: s.trace ∧ u.run = s.run) ∧
    (s.parity.bit 9 = true →
      ∃ t u, exec (.tr5WriteData k₀ set entry wb) s = .next t ∧ exec (.tr5ReadData k set entry wb) t = .next u ∧
        t.parity = s.parity ∧ u.parity.pes = true ∧ u.trace = .ierr :: s.trace ∧ u.run = s.run)

/-! ### TLB test -/

/-- A TLB write stores TR6 and TR7 in the entry the entry pointer selects, and on `P` the LRU bits of its set; every
other entry stays (rules R224, R225, R234). A test sequence is then open in the model's own record (log 13). -/
def Obligations.TlbWrite : Prop :=
  ∀ (s : State) (la : BitVec 20) (v d u w ps : Bool), s.core.cpl = 0 → TlbTestSet s → s.tlbTest.tr7.h = true →
    (∃ t, exec (.tr6WriteCode la v d u w ps) s = .next t ∧
      (∀ n k, t.tlbs.entry n k =
        if n = .code ∧ k = tlbKey s.cfg.variant .code la s.tlbTest.tr7.entry then
          { v := v, lpn := la, ps := false, d := false, u := u, w := false, ppn := s.tlbTest.tr7.pa
            pcd := s.tlbTest.tr7.pcd, pwt := s.tlbTest.tr7.pwt
            badTag := s.parity.bit 7, badData := s.parity.bit 8 }
        else s.tlbs.entry n k) ∧
      (s.cfg.variant = .p → Sparse.get 0 t.tlbs.codeLru (tlbSet .code la) = s.tlbTest.tr7.lru) ∧
      t.tlbTest = { s.tlbTest with tr6 := ⟨la, v, d, u, w, ps, false, false⟩ } ∧
      t.tlbSequence.active = true ∧ TlbTestSet t ∧ OnlyParts [.tlbTest, .tlbs, .tlbSequence] s t) ∧
    (∃ t, exec (.tr6WriteData la v d u w ps) s = .next t ∧
      (∀ n k, t.tlbs.entry n k =
        if n = dataTlb s.cfg.variant ps ∧
            k = tlbKey s.cfg.variant (dataTlb s.cfg.variant ps) la s.tlbTest.tr7.entry then
          { v := v, lpn := la, ps := ps, d := d, u := u, w := w, ppn := s.tlbTest.tr7.pa
            pcd := s.tlbTest.tr7.pcd, pwt := s.tlbTest.tr7.pwt
            badTag := s.parity.bit 11, badData := s.parity.bit 12 }
        else s.tlbs.entry n k) ∧
      (s.cfg.variant = .p → Sparse.get 0 (t.tlbs.lru (dataTlb .p ps)) (tlbSet (dataTlb .p ps) la) =
        s.tlbTest.tr7.lru) ∧
      t.tlbTest = { s.tlbTest with tr6 := ⟨la, v, d, u, w, ps, true, false⟩ } ∧
      t.tlbSequence.active = true ∧ TlbTestSet t ∧ OnlyParts [.tlbTest, .tlbs, .tlbSequence] s t)

/-- A TLB write with TR7.H = 0, a TLB read that matches two entries of one TLB, and a lookup by normal operation, with
paging on (CR0 bit 31, PRESUMED, log 32), that does, have no meaning (rules R222, R224 to R227). The conditions of a
TLB test are judged by the model's own record (log 13). -/
def Obligations.TlbRefusals : Prop :=
  ∀ (s : State) (la : BitVec 20) (v d u w ps : Bool),
    (s.core.cpl = 0 → TlbTestSet s → s.tlbTest.tr7.h = false →
      exec (.tr6WriteCode la v d u w ps) s = .refused .tlbHitBitClear ∧
      exec (.tr6WriteData la v d u w ps) s = .refused .tlbHitBitClear) ∧
    (∀ n i j, i ≠ j → i ∈ tlbCandidates s.cfg.variant n la → j ∈ tlbCandidates s.cfg.variant n la →
      tlbMatch n (s.tlbs.entry n i) la = true → tlbMatch n (s.tlbs.entry n j) la = true →
      (n = .code → s.core.cpl = 0 → TlbTestSet s → exec (.tr6ReadCode la v d u w ps) s = .refused .tlbDoubleMatch) ∧
      (n = .data4K ∨ (n = .data4M ∧ s.cfg.variant = .p) → s.core.cpl = 0 → TlbTestSet s →
        exec (.tr6ReadData la v d u w ps) s = .refused .tlbDoubleMatch) ∧
      ((n = .data4M → s.cfg.variant = .p) → s.core.cr0.getLsbD 31 = true → agentMove (.tlbLookup n la) s = .refused .tlbDoubleMatch))

/-- A code TLB read that hits one entry of good parity reports it in TR7 and TR6; one that misses clears H. Either way
TR6[31:12] is zero afterwards and no entry changes (rules R226, R235). The conditions of a TLB test are judged by the
model's own record (log 13). -/
def Obligations.CodeTlbRead : Prop :=
  ∀ (s : State) (la : BitVec 20) (v d u w ps : Bool), s.core.cpl = 0 → TlbTestSet s →
    (∀ k e, k ∈ tlbCandidates s.cfg.variant .code la → e = s.tlbs.entry .code k → e.v = true → e.lpn = la →
      (∀ j ∈ tlbCandidates s.cfg.variant .code la, j ≠ k → tlbMatch .code (s.tlbs.entry .code j) la = false) →
      e.badTag = false → e.badData = false →
      ∃ t, exec (.tr6ReadCode la v d u w ps) s = .next t ∧ t.tlbTest.tr7.h = true ∧ t.tlbTest.tr7.pa = e.ppn ∧
        t.tlbTest.tr7.pcd = e.pcd ∧ t.tlbTest.tr7.pwt = e.pwt ∧
        t.tlbTest.tr7.entry.toNat = (match s.cfg.variant with | .p => k % 4 | .pmmx => k) ∧
        (s.cfg.variant = .p → t.tlbTest.tr7.lru = Sparse.get 0 s.tlbs.codeLru (k / 4)) ∧
        t.tlbTest.tr6.v = true ∧ t.tlbTest.tr6.u = e.u ∧ t.tlbTest.tr6.la = 0 ∧
        (∀ n j, t.tlbs.entry n j = s.tlbs.entry n j) ∧ OnlyParts [.tlbTest, .tlbs, .draws] s t) ∧
    ((∀ k ∈ tlbCandidates s.cfg.variant .code la, tlbMatch .code (s.tlbs.entry .code k) la = false) →
      ∃ t, exec (.tr6ReadCode la v d u w ps) s = .next t ∧ t.tlbTest.tr7.h = false ∧ t.tlbTest.tr6.la = 0 ∧
        OnlyParts [.tlbTest, .draws] s t)

/-- A data TLB read that finds one match of good parity reports it: on `PMMX` by its number, on `P` by its way with
the LRU bits before the read, and on `P` a match in the 4-Mbyte TLB is the one reported also when the 4-Kbyte TLB has
one; a read without a match clears H. TR6[31:12] stays and no entry changes (rules R227, R234, R235). The conditions
of a TLB test are judged by the model's own record (log 13). -/
def Obligations.DataTlbRead : Prop :=
  ∀ (s : State) (la : BitVec 20) (v d u w ps : Bool), s.core.cpl = 0 → TlbTestSet s →
    (∀ n k e, (n = .data4K ∨ (n = .data4M ∧ s.cfg.variant = .p)) → k ∈ tlbCandidates s.cfg.variant n la →
      e = s.tlbs.entry n k → e.v = true → (if e.ps then e.lpn.toNat / 2 ^ 10 = la.toNat / 2 ^ 10 else e.lpn = la) →
      (∀ j ∈ tlbCandidates s.cfg.variant n la, j ≠ k → tlbMatch n (s.tlbs.entry n j) la = false) →
      (s.cfg.variant = .p → n = .data4K →
        ∀ j ∈ tlbCandidates .p .data4M la, tlbMatch .data4M (s.tlbs.entry .data4M j) la = false) →
      (n = .data4M → ∀ i ∈ tlbCandidates .p .data4K la, ∀ j ∈ tlbCandidates .p .data4K la,
        tlbMatch .data4K (s.tlbs.entry .data4K i) la = true → tlbMatch .data4K (s.tlbs.entry .data4K j) la = true →
        i = j) →
      e.badTag = false → e.badData = false →
      ∃ t, exec (.tr6ReadData la v d u w ps) s = .next t ∧ t.tlbTest.tr7.h = true ∧ t.tlbTest.tr7.pa = e.ppn ∧
        t.tlbTest.tr7.pcd = e.pcd ∧ t.tlbTest.tr7.pwt = e.pwt ∧
        t.tlbTest.tr7.entry.toNat = (match s.cfg.variant with | .p => k % 4 | .pmmx => k) ∧
        (s.cfg.variant = .p → t.tlbTest.tr7.lru = Sparse.get 0 (s.tlbs.lru n) (k / 4)) ∧
        t.tlbTest.tr6 = ⟨la, true, e.d, e.u, e.w, e.ps, true, true⟩ ∧
        (∀ m j, t.tlbs.entry m j = s.tlbs.entry m j) ∧ OnlyParts [.tlbTest, .tlbs, .draws] s t) ∧
    ((∀ n, (n = .data4K ∨ (n = .data4M ∧ s.cfg.variant = .p)) → ∀ k ∈ tlbCandidates s.cfg.variant n la,
        tlbMatch n (s.tlbs.entry n k) la = false) →
      ∃ t, exec (.tr6ReadData la v d u w ps) s = .next t ∧ t.tlbTest.tr7.h = false ∧ t.tlbTest.tr6.la = la ∧
        OnlyParts [.tlbTest, .draws] s t)

/-- What a TLB write maps on `PMMX`, a TLB read of the page finds, when no other entry answers it and no parity is
reversed: a 4-Mbyte data page for every linear page it covers (rules R224 to R227, R231, R232). The conditions of a
TLB test are judged by the model's own record (log 13). -/
def Obligations.TlbWriteThenRead : Prop :=
  ∀ (s : State) (la la' : BitVec 20) (d u w ps : Bool), s.core.cpl = 0 → TlbTestSet s →
    s.cfg.variant = .pmmx → s.tlbTest.tr7.h = true →
    (s.parity.bit 7 = false → s.parity.bit 8 = false →
      (∀ j, j < 32 → j ≠ s.tlbTest.tr7.entry.toNat % 32 →
        tlbMatch .code (s.tlbs.entry .code j) la = false) →
      ∃ t x, exec (.tr6WriteCode la true d u w ps) s = .next t ∧ exec (.tr6ReadCode la true d u w ps) t = .next x ∧
        x.tlbTest.tr7.h = true ∧ x.tlbTest.tr7.pa = s.tlbTest.tr7.pa ∧ x.tlbTest.tr7.pcd = s.tlbTest.tr7.pcd ∧
        x.tlbTest.tr7.pwt = s.tlbTest.tr7.pwt ∧
        x.tlbTest.tr7.entry.toNat = s.tlbTest.tr7.entry.toNat % 32 ∧ x.tlbTest.tr6.u = u) ∧
    (s.parity.bit 11 = false → s.parity.bit 12 = false →
      (la' = la ∨ (ps = true ∧ la'.toNat / 2 ^ 10 = la.toNat / 2 ^ 10)) →
      (∀ j, j < 64 → j ≠ s.tlbTest.tr7.entry.toNat → tlbMatch .data4K (s.tlbs.entry .data4K j) la' = false) →
      ∃ t x, exec (.tr6WriteData la true d u w ps) s = .next t ∧ exec (.tr6ReadData la' false d u w false) t = .next x ∧
        x.tlbTest.tr7 = s.tlbTest.tr7 ∧ x.tlbTest.tr6 = ⟨la', true, d, u, w, ps, true, true⟩)

/-- A TLB read that hits an entry with a bad tag or data sets PES and asserts IERR# (rules R236, R287): with NS = 1 it
delivers the entry; with NS = 0 the machine is in shutdown (rule R470), and that nothing else of the read happens but
that TR6 holds its value is the model's choice (log 15). The conditions of a TLB test are judged by the model's own
record (log 13). -/
def Obligations.TlbBadParityIsReported : Prop :=
  ∀ (s : State) (la : BitVec 20) (v d u w ps : Bool) (n : TlbName) (k : Nat), s.core.cpl = 0 → TlbTestSet s →
    (s.tlbs.entry n k).badTag = true ∨ (s.tlbs.entry n k).badData = true →
    ∀ p ∈ [(Instr.tr6ReadCode la v d u w ps, false, searchCode s.cfg.variant s.tlbs la),
        (.tr6ReadData la v d u w ps, true, searchData s.cfg.variant s.tlbs la)],
      p.2.2 = .hit n k →
      ∃ t, exec p.1 s = .next t ∧ t.parity = { s.parity with pes := true } ∧ t.trace = .ierr :: s.trace ∧
        (s.parity.bit 1 = true →
          t.tlbTest.tr7.h = true ∧ t.tlbTest.tr7.pa = (s.tlbs.entry n k).ppn ∧
          t.tlbTest.tr7.entry.toNat = (match s.cfg.variant with | .p => k % 4 | .pmmx => k) ∧
          OnlyParts [.parity, .tlbTest, .tlbs, .trace, .draws] s t) ∧
        (s.parity.bit 1 = false →
          t.run = .shutdown ∧ t.tlbTest = { s.tlbTest with tr6 := ⟨la, v, d, u, w, ps, p.2.1, true⟩ } ∧
          KeptBut [.parity, .tlbTest, .run, .trace, .draws] s t)

/-! ### BTB test -/

/-- TR11 normal operation latches its value and touches no entry of the BTB (rule R253). -/
def Obligations.Tr11NormalLatches : Prop :=
  ∀ (s : State) (btype : BitVec 2) (set : BitVec 6) (bank way : BitVec 2),
    s.core.cpl = 0 → BtbTestSet s → tr11Fits s.cfg.variant btype set bank = true →
    ∃ t, exec (.tr11Normal btype set bank way) s = .next t ∧
      unpackTr11 s.cfg.variant (t.btbTest.tr11.setWidth 64) = ⟨0, set, bank, way, btype⟩ ∧
      t.btbTest = { s.btbTest with tr11 := t.btbTest.tr11 } ∧ OnlyParts [.btbTest] s t

/-- A BTB write on `PMMX` stores TR9, TR10 and the branch type in one way of the set and bank: in the addressed way if
no other way holds the tag; in another way that holds it and is valid if there is one; and else in the addressed way
or in one that holds the tag. Every other entry stays (rule R254). -/
def Obligations.BtbWritePmmx : Prop :=
  ∀ (s : State) (btype : BitVec 2) (set : BitVec 6) (bank way : BitVec 2) (e : BtbEntry),
    s.core.cpl = 0 → BtbTestSet s → s.cfg.variant = .pmmx → set.toNat < 16 →
    e.tag.toNat = s.btbTest.tr9.toNat / 2 ^ 8 → e.offset.toNat = s.btbTest.tr9.toNat / 2 ^ 6 % 4 →
    e.valid = s.btbTest.tr9.getLsbD 5 → e.prediction = s.btbTest.tr9.getLsbD 4 →
    e.history.toNat = s.btbTest.tr9.toNat % 16 → e.target = s.btbTest.tr10 → e.btype = btype →
    ∃ t dest, exec (.tr11Write btype set bank way) s = .next t ∧
      (∀ k, Sparse.get BtbEntry.empty t.btb k =
        if k = (set.toNat * 4 + dest.toNat) * 4 + bank.toNat then e else Sparse.get BtbEntry.empty s.btb k) ∧
      (dest = way ∨ (s.btbEntry set dest bank).tag = e.tag) ∧
      ((∀ x, x ≠ way → (s.btbEntry set x bank).tag ≠ e.tag) → dest = way ∧ t.draws = s.draws) ∧
      ((∃ x, x ≠ way ∧ (s.btbEntry set x bank).tag = e.tag ∧ (s.btbEntry set x bank).valid = true) →
        dest ≠ way ∧ (s.btbEntry set dest bank).valid = true) ∧
      unpackTr11 .pmmx (t.btbTest.tr11.setWidth 64) = ⟨1, set, bank, way, btype⟩ ∧
      t.btbTest = { s.btbTest with tr11 := t.btbTest.tr11 } ∧ OnlyParts [.btbTest, .btb, .draws] s t

/-- A BTB write on `P` stores TR9 and TR10 in the addressed way and makes it valid; a tag another valid way of the set
has is refused (rule R254). -/
def Obligations.BtbWriteP : Prop :=
  ∀ (s : State) (set : BitVec 6) (way : BitVec 2), s.core.cpl = 0 → BtbTestSet s → s.cfg.variant = .p →
    ((∀ x, x ≠ way → (s.btbEntry set x 0).valid = true →
        (s.btbEntry set x 0).tag.toNat ≠ s.btbTest.tr9.toNat / 2 ^ 6) →
      ∃ t, exec (.tr11Write 0 set 0 way) s = .next t ∧
        (t.btbEntry set way 0).tag.toNat = s.btbTest.tr9.toNat / 2 ^ 6 ∧
        (t.btbEntry set way 0).history.toNat = s.btbTest.tr9.toNat % 4 ∧
        (t.btbEntry set way 0).target = s.btbTest.tr10 ∧ (t.btbEntry set way 0).valid = true ∧
        (∀ k, k ≠ set.toNat * 4 + way.toNat →
          Sparse.get BtbEntry.empty t.btb k = Sparse.get BtbEntry.empty s.btb k) ∧
        unpackTr11 .p (t.btbTest.tr11.setWidth 64) = ⟨1, set, 0, way, 0⟩ ∧
        t.btbTest = { s.btbTest with tr11 := t.btbTest.tr11 } ∧ OnlyParts [.btbTest, .btb] s t) ∧
    (∀ x, x ≠ way → (s.btbEntry set x 0).valid = true →
      (s.btbEntry set x 0).tag.toNat = s.btbTest.tr9.toNat / 2 ^ 6 →
      exec (.tr11Write 0 set 0 way) s = .refused .btbDuplicateTag)

/-- The BTB read commands deliver the fields of the addressed entry and leave the other bits of TR9 (and, for read
TAG, TR10) as they were; the BTB stays (rules R255, R256). -/
def Obligations.BtbRead : Prop :=
  ∀ (s : State) (btype : BitVec 2) (set : BitVec 6) (bank way : BitVec 2) (e : BtbEntry),
    s.core.cpl = 0 → BtbTestSet s → tr11Fits s.cfg.variant btype set bank = true → e = s.btbEntry set way bank →
    (∃ t, exec (.tr11ReadData btype set bank way) s = .next t ∧ t.btbTest.tr10 = e.target ∧
      OnlyParts [.btbTest] s t ∧
      unpackTr11 s.cfg.variant (t.btbTest.tr11.setWidth 64) =
        ⟨2, set, bank, way, match s.cfg.variant with | .p => 0 | .pmmx => e.btype⟩ ∧
      (s.cfg.variant = .pmmx →
        t.btbTest.tr9.toNat / 2 ^ 8 = s.btbTest.tr9.toNat / 2 ^ 8 ∧
        t.btbTest.tr9.toNat / 2 ^ 6 % 4 = e.offset.toNat ∧
        t.btbTest.tr9.getLsbD 5 = s.btbTest.tr9.getLsbD 5 ∧ t.btbTest.tr9.getLsbD 4 = e.prediction ∧
        t.btbTest.tr9.toNat % 16 = e.history.toNat) ∧
      (s.cfg.variant = .p →
        t.btbTest.tr9.toNat / 2 ^ 6 = e.tag.toNat ∧ t.btbTest.tr9.toNat % 4 = e.history.toNat % 4)) ∧
    (s.cfg.variant = .pmmx →
      ∃ t, exec (.tr11ReadTag btype set bank way) s = .next t ∧
        t.btbTest.tr9.toNat / 2 ^ 8 = e.tag.toNat % 2 ^ 24 ∧ t.btbTest.tr9.getLsbD 5 = e.valid ∧
        (∀ n, n < 8 → n ≠ 5 → t.btbTest.tr9.getLsbD n = s.btbTest.tr9.getLsbD n) ∧
        unpackTr11 .pmmx (t.btbTest.tr11.setWidth 64) = ⟨5, set, bank, way, btype⟩ ∧
        t.btbTest.tr10 = s.btbTest.tr10 ∧ OnlyParts [.btbTest] s t)

/-- What a BTB write stores on `PMMX`, the two read cycles return into TR9, TR10 and the branch type of TR11, when no
other way holds the tag (rules R254 to R256, R265, R267). -/
def Obligations.BtbWriteThenRead : Prop :=
  ∀ (s : State) (btype : BitVec 2) (set : BitVec 6) (bank way : BitVec 2) (x y : Word),
    s.core.cpl = 0 → BtbTestSet s → s.cfg.variant = .pmmx → set.toNat < 16 →
    (∀ z, z ≠ way → (s.btbEntry set z bank).tag.toNat ≠ s.btbTest.tr9.toNat / 2 ^ 8) →
    ∃ t u z, exec (.tr11Write btype set bank way) s = .next t ∧
      exec (.tr11ReadData 0 set bank way) (t.withBtbTest { t.btbTest with tr9 := x, tr10 := y }) = .next u ∧
      u.btbTest.tr10 = s.btbTest.tr10 ∧ u.btbTest.tr11.toNat / 2 ^ 24 % 4 = btype.toNat ∧
      exec (.tr11ReadTag 0 set bank way) u = .next z ∧ z.btbTest.tr9 = s.btbTest.tr9 ∧
      z.btbTest.tr10 = s.btbTest.tr10

/-! ### Clocks -/

/-- One clock: TSC counts. A counter is enabled by CC[0] at CPL 0 to 2 and by CC[1] at CPL 3 (rules R48, R334). A
disabled counter holds unless its code names no event (rule R455); an enabled one goes up by one with CC[2] = 1, and
else by 0, 1 or 2 if its code names an event, modulo 2^40, with `OVF` at the carry and `INC` when it went up (rules
R322, R335). Of what the model itself counts: event 22 what was executed (rule R384), event 23 nothing while TR12.SE =
1 (rule R385), event 48 of counter 0 a clock outside the HALT state (rule R416), event 6 a writeback (rule R368), and
events 18 and 20 a taken branch (rules R380, R382). That what is known comes one a clock is the model's choice (log
8). -/
def Obligations.ClockTick : Prop :=
  ∀ (env : ClockEnv) (known : Option Occurrence) (p : Perf) (i : Fin 2) (before after : BitVec 40) (inc ovf : Bool)
    (cc : BitVec 3) (es : Nat),
    (i = 0 → before = p.ctr0 ∧ after = (tick env known p).ctr0 ∧ inc = (tick env known p).inc0 ∧
      ovf = (tick env known p).ovf0) →
    (i = 1 → before = p.ctr1 ∧ after = (tick env known p).ctr1 ∧ inc = (tick env known p).inc1 ∧
      ovf = (tick env known p).ovf1) →
    cc = cesrCc env.cfg p.cesr i → es = cesrEs env.cfg p.cesr i →
    (tick env known p).tsc.toNat = (p.tsc.toNat + 1) % 2 ^ 64 ∧ (tick env known p).cesr = p.cesr ∧
    (¬((cc.getLsbD 0 = true ∧ env.cpl ≠ 3) ∨ (cc.getLsbD 1 = true ∧ env.cpl = 3)) →
      cc.getLsbD 2 = true ∨ cc = 0 ∨ (eventOf env.cfg.variant es i).isSome = true →
      after = before ∧ inc = false ∧ ovf = false) ∧
    ((cc.getLsbD 0 = true ∧ env.cpl ≠ 3) ∨ (cc.getLsbD 1 = true ∧ env.cpl = 3) →
      (cc.getLsbD 2 = true →
        after.toNat = (before.toNat + 1) % 2 ^ 40 ∧ inc = true ∧ (ovf = true ↔ before.toNat = 2 ^ 40 - 1)) ∧
      (cc.getLsbD 2 = false → (eventOf env.cfg.variant es i).isSome = true →
        ∃ n ≤ 2, after.toNat = (before.toNat + n) % 2 ^ 40 ∧ (inc = true ↔ 0 < n) ∧
          (ovf = true ↔ 2 ^ 40 ≤ before.toNat + n) ∧
          (es = 22 → n = if known ∈ [some .instruction, some .flushService, some .takenBranch] then 1 else 0) ∧
          (es = 23 → env.se = true → n = 0) ∧
          (es = 48 → i = 0 → n = if env.halted then 0 else 1) ∧
          (es = 6 → known = some .writeback → 1 ≤ n) ∧
          (es = 18 ∨ es = 20 → known = some .flushService ∨ known = some .takenBranch → 1 ≤ n)))

/-- The PM pins show the signals of `PM_PIN_LAG` clocks before: the increment if PC = 0, the overflow if PC = 1 (rule
R337); no more than `PM_PIN_LAG` clocks are on their way to the pins, from reset on. The pins BP3 and BP2, and the PM
pins in their breakpoint function, are high in a clock in which the event of their breakpoint register is counted
(rules R338, R397 to R400, R472); that they do not lag is the model's choice (log 33). -/
def Obligations.PinsLagCounters : Prop :=
  Perf.atReset.pipe = [] ∧
  ∀ (env : ClockEnv) (p : Perf), p.pipe.length ≤ env.cfg.pmPinLag →
    (∀ o, (tick env o p).pipe.length ≤ env.cfg.pmPinLag) ∧
    (∀ (known : List (Option Occurrence)) (n : Nat), env.pins = .performanceMonitoring →
      n + env.cfg.pmPinLag + 1 ≤ known.length →
      let q := ticks env (known.take (n + 1)) p
      let later := ticks env (known.take (n + env.cfg.pmPinLag + 1)) p
      later.pm0 = (if cesrPc env.cfg p.cesr 0 then q.ovf0 else q.inc0) ∧
      later.pm1 = (if cesrPc env.cfg p.cesr 1 then q.ovf1 else q.inc1)) ∧
    (∀ (o : Option Occurrence) (i : Fin 2), counterEnabled (cesrCc env.cfg p.cesr i) env.cpl = true →
      (cesrCc env.cfg p.cesr i).getLsbD 2 = false →
      let q := tick env o p
      let inc := if i = 0 then q.inc0 else q.inc1
      (cesrEs env.cfg p.cesr i = 38 → q.bp3 = inc) ∧ (cesrEs env.cfg p.cesr i = 37 → q.bp2 = inc) ∧
      (env.pins = .breakpoint → cesrEs env.cfg p.cesr i = 36 → q.pm1 = inc) ∧
      (env.pins = .breakpoint → cesrEs env.cfg p.cesr i = 35 → q.pm0 = inc))

/-! ### The other agents -/

/-- RESET, from any state: the four control bits of TR12, TSC and CESR are zero, the PM pins have their performance
monitoring function, and the machine runs; memory is not the processor's and stays (rules R80, R311, R500; that memory
stays is the model's choice, log 40). The state after reset of every configuration meets the invariants that every
step keeps; this rests on the reset values the model takes where rule R80 leaves them unspecified (logs 4, 5). -/
def Obligations.ResetValues : Prop :=
  (∀ s : State, ∃ t, agentMove .reset s = .next t ∧ t.tr12.toNat % 16 = 0 ∧ t.perf.tsc = 0 ∧ t.perf.cesr = 0 ∧
    t.pins = .performanceMonitoring ∧ t.run = .running ∧ t.cfg = s.cfg ∧
    (∀ a, readByte t.mem a = readByte s.mem a)) ∧
  (∀ c : Config, (State.resetWith c).tr12.toNat % 16 = 0 ∧ (State.resetWith c).perf.tsc = 0 ∧
    (State.resetWith c).perf.cesr = 0 ∧ (State.resetWith c).Canonical ∧ (State.resetWith c).FieldsFit)

/-- FLUSH#: every modified line of the data cache is in memory afterwards, at the address of its line, memory
elsewhere is as before, and no line of either cache is valid (rules R196, R473), when the parity of the modified lines
is good and no two of them have one address. A modified line of bad parity is reported, with NS = 0 by shutdown (rules
R284, R287). The address of a line is what rule R196 calls an assumption (logs 20, 21), and that a shutdown leaves the
caches as they are is the model's choice (log 15). -/
def Obligations.FlushPinWritesBack : Prop :=
  ∀ (s : State) (address : Nat → Word), s.Canonical →
    (∀ k, address k = lineAddress s.cfg (s.caches.dataLine k).tag (BitVec.ofNat 7 (k / 4))) →
    ((∀ k, (s.caches.dataLine k).state = .modified → (s.caches.dataLine k).GoodParity) →
      (∀ j k, (s.caches.dataLine j).state = .modified → (s.caches.dataLine k).state = .modified →
        address j = address k → j = k) →
      ∃ t, agentMove .flush s = .next t ∧
        (∀ k, (t.caches.dataLine k).state = .invalid ∧ (t.caches.codeLine k).valid = false) ∧
        (∀ k n, (s.caches.dataLine k).state = .modified → n < 32 →
          readByte t.mem ((address k).toNat + n) =
            (portion (s.caches.dataLine k).data (BitVec.ofNat 3 (n / 4))).extractLsb' (8 * (n % 4)) 8) ∧
        (∀ a, (∀ k, (s.caches.dataLine k).state = .modified → a / 2 ^ 5 ≠ (address k).toNat / 2 ^ 5) →
          readByte t.mem a = readByte s.mem a) ∧
        KeptBut [.cacheTest, .caches, .memory, .trace, .occurred, .draws] s t) ∧
    (∀ k, (s.caches.dataLine k).state = .modified → ¬(s.caches.dataLine k).GoodParity →
      ∃ t, agentMove .flush s = .next t ∧ t.parity = { s.parity with pes := true } ∧ .ierr ∈ t.trace ∧
        (s.parity.bit 1 = false → t.run = .shutdown ∧ t.caches = s.caches) ∧
        (s.parity.bit 1 = true → t.run = s.run ∧
          ∀ k, (t.caches.dataLine k).state = .invalid ∧ (t.caches.codeLine k).valid = false))

/-- A load of CR3 at CPL 0 makes every entry of every TLB and of the BTB invalid, and so does the flush of TR11 for
the BTB (rules R230, R257, R260); that the other fields of the entries stay, and that a load of CR3 ends a TLB test
sequence, is the model's reading (logs 45, 13), and so it is that EIP stays in the load (log 42). A load of CR0, CR3
or CR4 at another privilege level is a general protection fault (rule R478, G7; that the loads are turns which fault
so: log 49). -/
def Obligations.FlushesClearValidBits : Prop :=
  ∀ s : State, s.Canonical →
    (∀ x, s.core.cpl = 0 → ∃ t, agentMove (.loadCr3 x) s = .next t ∧ t.core.cr3 = x ∧
      (∀ n k, t.tlbs.entry n k = { s.tlbs.entry n k with v := false }) ∧
      (∀ k, Sparse.get BtbEntry.empty t.btb k = { Sparse.get BtbEntry.empty s.btb k with valid := false }) ∧
      t.tlbSequence.active = false ∧ TlbTestSet t ∧ CoreKeptBut [.cr3] s t ∧
      KeptBut [.core, .tlbs, .tlbSequence, .btb, .perf, .occurred, .draws] s t) ∧
    (∀ btype set bank way, s.core.cpl = 0 → BtbTestSet s → tr11Fits s.cfg.variant btype set bank = true →
      ∃ t, exec (.tr11Flush btype set bank way) s = .next t ∧
        (∀ k, Sparse.get BtbEntry.empty t.btb k = { Sparse.get BtbEntry.empty s.btb k with valid := false }) ∧
        unpackTr11 s.cfg.variant (t.btbTest.tr11.setWidth 64) = ⟨3, set, bank, way, btype⟩ ∧
        t.btbTest = { s.btbTest with tr11 := t.btbTest.tr11 } ∧ OnlyParts [.btbTest, .btb] s t) ∧
    (∀ x, s.core.cpl ≠ 0 → ∀ a ∈ [Agent.loadCr0 x, .loadCr3 x, .loadCr4 x], FaultsGp s (agentMove a s))

/-- Internal snooping: a memory data access that misses the data cache makes every valid line of the address in the
code cache invalid (rule R109); a code access that misses the code cache makes every line of the address in the data
cache invalid, and a modified one is written to memory first (rule R110). That an invalid line keeps its other fields
is the model's choice (log 45). Every other line stays, and every byte of memory but the 32 of that line and the byte
an access writes. A line holds an address when its set is bits 11:5 and its tag bits 31:12, with the derived tag width
(logs 43, 20). The lines that hold the address have good parity; that the ways that do not are not checked, on the
miss itself too, is the model's choice (log 26); an access that hits twice in its own cache has no meaning (rule R189
a; log 43). -/
def Obligations.InternalSnooping : Prop :=
  ∀ (s : State) (a : Word),
    (s.cfg.cacheTagBits = 20 →
      (∀ k, k ∈ dataHits a s ↔ ∃ w < s.cfg.variant.cacheWays, k = a.toNat / 2 ^ 5 % 2 ^ 7 * 4 + w ∧
        (s.caches.dataLine k).state ≠ .invalid ∧ (s.caches.dataLine k).tag.toNat = a.toNat / 2 ^ 12) ∧
      (∀ k, k ∈ codeHits a s ↔ ∃ w < s.cfg.variant.cacheWays, k = a.toNat / 2 ^ 5 % 2 ^ 7 * 4 + w ∧
        (s.caches.codeLine k).valid = true ∧ (s.caches.codeLine k).tag.toNat = a.toNat / 2 ^ 12)) ∧
    (dataHits a s = [] → (∀ k ∈ codeHits a s, (s.caches.codeLine k).badTag = false) →
      (∃ t, agentMove (.dataRead a) s = .next t ∧
        (∀ k, t.caches.codeLine k = if k ∈ codeHits a s then { s.caches.codeLine k with valid := false }
          else s.caches.codeLine k) ∧
        t.caches = { s.caches with icache := t.caches.icache } ∧
        t.cacheTest = { s.cacheTest with fill := t.cacheTest.fill } ∧ KeptBut [.cacheTest, .caches, .draws] s t) ∧
      (∀ b line out, ∃ t, agentMove (.dataWrite a b line out) s = .next t ∧
        (∀ k, t.caches.codeLine k = if k ∈ codeHits a s then { s.caches.codeLine k with valid := false }
          else s.caches.codeLine k) ∧
        t.caches = { s.caches with icache := t.caches.icache } ∧
        (∀ x, readByte t.mem x = if out = true ∧ x = a.toNat then b else readByte s.mem x) ∧
        KeptBut [.caches, .memory] s t)) ∧
    (codeHits a s = [] → (∀ k ∈ dataHits a s, (s.caches.dataLine k).GoodParity) →
      (∀ j ∈ dataHits a s, ∀ k ∈ dataHits a s, (s.caches.dataLine j).state = .modified →
        (s.caches.dataLine k).state = .modified → j = k) →
      ∃ t, agentMove (.codeFetch a) s = .next t ∧
        (∀ k, t.caches.dataLine k = if k ∈ dataHits a s then { s.caches.dataLine k with state := .invalid }
          else s.caches.dataLine k) ∧
        t.caches = { s.caches with dcache := t.caches.dcache } ∧
        (∀ k ∈ dataHits a s, (s.caches.dataLine k).state = .modified →
          ∀ x, x = lineAddress s.cfg (s.caches.dataLine k).tag (addressSet s.cfg a) →
            (s.cfg.cacheTagBits = 20 → x.toNat = a.toNat - a.toNat % 32) ∧
            (∀ n, n < 32 → readByte t.mem (x.toNat + n) =
              (portion (s.caches.dataLine k).data (BitVec.ofNat 3 (n / 4))).extractLsb' (8 * (n % 4)) 8) ∧
            (∀ b, b < x.toNat ∨ x.toNat + 32 ≤ b → readByte t.mem b = readByte s.mem b) ∧
            t.trace = .memWrite x (s.caches.dataLine k).data :: s.trace) ∧
        ((∀ k ∈ dataHits a s, (s.caches.dataLine k).state ≠ .modified) → KeptBut [.caches, .draws] s t) ∧
        KeptBut [.caches, .memory, .trace, .occurred, .draws] s t) ∧
    (2 ≤ (dataHits a s).length → agentMove (.dataRead a) s = .refused .cacheDoubleHit ∧
      ∀ b line out, agentMove (.dataWrite a b line out) s = .refused .cacheDoubleHit) ∧
    (2 ≤ (codeHits a s).length → agentMove (.codeFetch a) s = .refused .cacheDoubleHit)

/-- The background respects the control bits: with TR12.CI = 1 neither cache is filled, with CCI or DCI on `PMMX` not
that one, and with NBP = 1 no BTB entry is allocated (rules R302, R305, R308, R309). With CR0.CD = 1 no line is
filled: rule R182 says that replacements are disabled; that they are these moves is the model's choice (log 42). -/
def Obligations.FillsAndAllocationsInhibited : Prop :=
  ∀ s : State,
    (s.tr12.getLsbD 3 = true ∨ s.core.cr0.getLsbD 30 = true ∨ (s.cfg.variant = .pmmx ∧ s.tr12.getLsbD 19 = true) →
      ∀ set way tag data, agentMove (.fillCode set way tag data) s = .next s) ∧
    (s.tr12.getLsbD 3 = true ∨ s.core.cr0.getLsbD 30 = true ∨ (s.cfg.variant = .pmmx ∧ s.tr12.getLsbD 20 = true) →
      ∀ set way tag data state wb, agentMove (.fillData set way tag data state wb) s = .next s) ∧
    (s.tr12.getLsbD 0 = true → ∀ set bank way e, agentMove (.btbAllocate set bank way e) s = .next s)

/-- A taken branch is traced as TR and FTR say: from and to, from only, or not at all (rules R303, R306). That a taken
branch leaves EIP and the rest of the core is the model's choice (log 42). -/
def Obligations.BranchTraceMessages : Prop :=
  ∀ (s : State) (source target : Word), ∃ t, agentMove (.takenBranch source target) s = .next t ∧
    t.trace =
      (if s.tr12.getLsbD 1 = false then s.trace
       else if s.tr12.getLsbD 8 then .branchFrom source :: s.trace
       else .branchTo target :: .branchFrom source :: s.trace) ∧
    KeptBut [.trace, .occurred] s t

/-- A pending microcode parity error is reported by a step that reads the microcode, with shutdown if NS = 0; a step
that does not read it takes its turn and leaves the error pending; without one the step is its turn (rules R286,
R287). The draw is evaluated at each step outside shutdown, whoever has the turn: of the core, whose turn is an
instruction or, in the HALT state, idle, and of every other agent but RESET, which ends the error (that it does so
unreported: log 27). Whether a step reads the microcode is free, and that with NS = 1 the turn follows the report is
the model's choice (log 27). So it is that with NS = 0 the shutdown comes before the turn, which is not taken: its
instruction is left unexecuted and the core as it was (log 15). -/
def Obligations.MicrocodeParityError : Prop :=
  ∀ s : State, s.run ≠ .shutdown → s.nextTurn ≠ .agent .reset →
    (s.parity.mcBadPending = false → step s = takeTurn s.nextTurn s.turnTaken) ∧
    (s.parity.mcBadPending = true →
      ((Config.microcodeRead s.draws = true ∧
          (s.parity.bit 1 = false → ∃ t, step s = .next t ∧ t.run = .shutdown ∧
            t.parity = { s.parity with pes := true, mcBadPending := false } ∧ t.trace = .ierr :: s.trace ∧
            KeptBut [.parity, .run, .perf, .trace, .occurred, .draws] s.turnTaken t) ∧
          (s.parity.bit 1 = true → ∃ u, step s = takeTurn s.nextTurn u ∧
            u.parity = { s.parity with pes := true, mcBadPending := false } ∧ u.trace = .ierr :: s.trace ∧
            KeptBut [.parity, .trace, .draws] s.turnTaken u)) ∨
        (Config.microcodeRead s.draws = false ∧ step s = takeTurn s.nextTurn (s.turnTaken.useDraws 1) ∧
          ∀ t, step s = .next t → t.parity.mcBadPending = true))) ∧
    (CoreTurn s → ∀ u : State,
      (u.run = .running → takeTurn s.nextTurn u = runInstruction u) ∧
      (u.run = .halted → takeTurn s.nextTurn u = .next (idleClocks u))) ∧
    (∀ a rest, s.agenda = .agent a :: rest → ∀ u, takeTurn s.nextTurn u = drained 0 (agentMove a u))

/-- The machine check agent with CR4.MCE = 1 raises exception 18, without an error code (rule R463), and with CR4.MCE
= 0 it raises none and latches the address and the type of its cycle in MCA and MCT (rules R28, R29 say what the
registers hold). The source does not state when they are loaded: that the agent latches them, and that it does so with
CR4.MCE = 0, the one case this statement shows, is the model's choice (log 28), and so it is that a raised exception
ends the run and what was latched with it (logs 14, 28). That MCE is bit 6 of CR4 is PRESUMED (log 32). -/
def Obligations.MachineCheckLatches : Prop :=
  ∀ (s : State) (addr type : Quad),
    (s.core.cr4.getLsbD 6 = false → ∃ t, agentMove (.machineCheck addr type) s = .next t ∧ t.mca = addr ∧
      t.mct = type ∧ KeptBut [.machineCheck] s t) ∧
    (s.core.cr4.getLsbD 6 = true →
      agentMove (.machineCheck addr type) s = .fault (.raised 18 none s.core.eip))
end

