-- ==== Sys2Proof/Laws/Sparse.lean ====
section
/-!
SUPPORT. Arrays by key and memory: what a read gives after a write, and that every operation keeps the canonical
form.
-/

namespace Sys2Proof.Machine

section Arrays
variable {α : Type}

@[simp] theorem Sparse.get_nil (d : α) (k : Nat) : Sparse.get d [] k = d := rfl

theorem Sparse.get_cons (d : α) (p : Nat × α) (m : Sparse α) (k : Nat) :
    Sparse.get d (p :: m) k = if p.1 = k then p.2 else Sparse.get d m k := rfl

theorem Sparse.get_erase_same (d : α) (m : Sparse α) (k : Nat) : Sparse.get d (Sparse.erase m k) k = d := by
  induction m with
  | nil => rfl
  | cons p m ih =>
    by_cases h : p.1 = k
    · simpa [Sparse.erase, h] using ih
    · simpa [Sparse.erase, h, Sparse.get_cons] using ih

theorem Sparse.get_erase_other (d : α) (m : Sparse α) {k j : Nat} (hj : j ≠ k) :
    Sparse.get d (Sparse.erase m k) j = Sparse.get d m j := by
  induction m with
  | nil => rfl
  | cons p m ih =>
    by_cases h : p.1 = k
    · have hj' : p.1 ≠ j := fun e => hj (e ▸ h)
      simpa [Sparse.erase, h, Sparse.get_cons, hj', Ne.symm hj] using ih
    · have e : Sparse.erase (p :: m) k = p :: Sparse.erase m k := by simp [Sparse.erase, h]
      rw [e, Sparse.get_cons, Sparse.get_cons, ih]

theorem Sparse.not_mem_erase (m : Sparse α) (k : Nat) : ∀ p ∈ Sparse.erase m k, p.1 ≠ k := by
  intro p hp
  simpa [Sparse.erase] using (List.mem_filter.mp hp).2

theorem Sparse.get_insert_same (d : α) (m : Sparse α) (k : Nat) (v : α) (h : ∀ p ∈ m, p.1 ≠ k) :
    Sparse.get d (Sparse.insert k v m) k = v := by
  induction m with
  | nil => simp [Sparse.insert, Sparse.get_cons]
  | cons p m ih =>
    obtain ⟨i, w⟩ := p
    have hi : i ≠ k := h (i, w) (by simp)
    simp only [Sparse.insert]
    split
    · simp [Sparse.get_cons]
    · simpa [Sparse.get_cons, hi] using ih fun q hq => h q (by simp [hq])

theorem Sparse.get_insert_other (d : α) (m : Sparse α) {k j : Nat} (v : α) (hj : j ≠ k) :
    Sparse.get d (Sparse.insert k v m) j = Sparse.get d m j := by
  induction m with
  | nil => simp [Sparse.insert, Sparse.get_cons, Ne.symm hj]
  | cons p m ih =>
    obtain ⟨i, w⟩ := p
    simp only [Sparse.insert]
    split
    · simp [Sparse.get_cons, Ne.symm hj]
    · simp [Sparse.get_cons, ih]

variable [DecidableEq α]

/-- What is read where an entry was stored. -/
@[simp] theorem Sparse.get_put_same (d : α) (m : Sparse α) (k : Nat) (v : α) :
    Sparse.get d (Sparse.put d m k v) k = v := by
  unfold Sparse.put
  split
  · rename_i h
    rw [Sparse.get_erase_same, h]
  · exact Sparse.get_insert_same d _ k v (Sparse.not_mem_erase m k)

/-- What is read elsewhere is as before. -/
theorem Sparse.get_put_other (d : α) (m : Sparse α) {k j : Nat} (v : α) (hj : j ≠ k) :
    Sparse.get d (Sparse.put d m k v) j = Sparse.get d m j := by
  unfold Sparse.put
  split
  · exact Sparse.get_erase_other d m hj
  · rw [Sparse.get_insert_other d _ v hj, Sparse.get_erase_other d m hj]

/-- The read after a write, in one equation. -/
theorem Sparse.get_put (d : α) (m : Sparse α) (k j : Nat) (v : α) :
    Sparse.get d (Sparse.put d m k v) j = if j = k then v else Sparse.get d m j := by
  by_cases h : j = k
  · subst h; simp
  · simp [h, Sparse.get_put_other d m v h]

theorem Sparse.canonical_nil (d : α) (b : Nat) : Sparse.Canonical d b [] := by simp [Sparse.Canonical]

theorem Sparse.canonical_erase {d : α} {b : Nat} {m : Sparse α} (h : Sparse.Canonical d b m) (k : Nat) :
    Sparse.Canonical d b (Sparse.erase m k) :=
  ⟨h.1.filter _, fun p hp => h.2 p (List.mem_filter.mp hp).1⟩

omit [DecidableEq α] in
theorem Sparse.mem_insert {m : Sparse α} {k : Nat} {v : α} {p : Nat × α} (h : p ∈ Sparse.insert k v m) :
    p = (k, v) ∨ p ∈ m := by
  induction m with
  | nil => simpa [Sparse.insert] using h
  | cons q m ih =>
    obtain ⟨i, w⟩ := q
    simp only [Sparse.insert] at h
    split at h
    · simpa using h
    · rcases List.mem_cons.mp h with h | h
      · exact .inr (by simp [h])
      · rcases ih h with h | h
        · exact .inl h
        · exact .inr (by simp [h])

omit [DecidableEq α] in
theorem Sparse.sorted_insert {m : Sparse α} {k : Nat} (v : α) (h : m.Pairwise fun a b => a.1 < b.1)
    (hk : ∀ p ∈ m, p.1 ≠ k) : (Sparse.insert k v m).Pairwise fun a b => a.1 < b.1 := by
  induction m with
  | nil => simp [Sparse.insert]
  | cons q m ih =>
    obtain ⟨i, w⟩ := q
    have hi : i ≠ k := hk (i, w) (by simp)
    rw [List.pairwise_cons] at h
    simp only [Sparse.insert]
    split
    · rename_i hlt
      refine List.pairwise_cons.mpr ⟨?_, List.pairwise_cons.mpr h⟩
      intro p hp
      rcases List.mem_cons.mp hp with hp | hp
      · simpa [hp] using hlt
      · exact lt_trans hlt (h.1 p hp)
    · refine List.pairwise_cons.mpr ⟨?_, ih h.2 fun p hp => hk p (by simp [hp])⟩
      intro p hp
      rcases Sparse.mem_insert hp with hp | hp
      · subst hp
        show i < k
        omega
      · exact h.1 p hp

/-- Storing an entry below the bound keeps the canonical form. -/
theorem Sparse.canonical_put {d : α} {b : Nat} {m : Sparse α} (h : Sparse.Canonical d b m) {k : Nat} (hk : k < b)
    (v : α) : Sparse.Canonical d b (Sparse.put d m k v) := by
  unfold Sparse.put
  split
  · exact Sparse.canonical_erase h k
  · rename_i hv
    refine ⟨Sparse.sorted_insert v (Sparse.canonical_erase h k).1 (Sparse.not_mem_erase m k), ?_⟩
    intro p hp
    rcases Sparse.mem_insert hp with hp | hp
    · subst hp
      exact ⟨hv, hk⟩
    · exact (Sparse.canonical_erase h k).2 p hp

/-- The keys listed after an entry is stored. -/
theorem Sparse.key_of_mem_put {d : α} {m : Sparse α} {k : Nat} {v : α} {p : Nat × α}
    (h : p ∈ Sparse.put d m k v) : p.1 = k ∨ p ∈ m := by
  unfold Sparse.put at h
  split at h
  · exact .inr (List.mem_filter.mp h).1
  · rcases Sparse.mem_insert h with h | h
    · exact .inl (by simp [h])
    · exact .inr (List.mem_filter.mp h).1

/-- The keys listed after every entry is changed. -/
theorem Sparse.key_of_mem_mapAll {d : α} {f : α → α} {m : Sparse α} {p : Nat × α} (h : p ∈ Sparse.mapAll d f m) :
    ∃ q ∈ m, q.1 = p.1 ∧ f q.2 = p.2 := by
  obtain ⟨q, hq, rfl⟩ := List.mem_map.mp (List.mem_filter.mp h).1
  exact ⟨q, hq, rfl, rfl⟩

/-- Changing every entry keeps the canonical form. -/
theorem Sparse.canonical_mapAll {d : α} {b : Nat} {m : Sparse α} (h : Sparse.Canonical d b m) (f : α → α) :
    Sparse.Canonical d b (Sparse.mapAll d f m) := by
  refine ⟨List.Pairwise.filter _ (List.pairwise_map.mpr h.1), ?_⟩
  intro p hp
  obtain ⟨q, hq, hk, -⟩ := Sparse.key_of_mem_mapAll hp
  exact ⟨by simpa using (List.mem_filter.mp hp).2, hk ▸ (h.2 q hq).2⟩

/-- What is read after every entry is changed by a function that leaves the unlisted entry as it is. -/
theorem Sparse.get_mapAll {d : α} {b : Nat} {m : Sparse α} (h : Sparse.Canonical d b m) {f : α → α} (hf : f d = d)
    (k : Nat) : Sparse.get d (Sparse.mapAll d f m) k = f (Sparse.get d m k) := by
  induction m with
  | nil => simp [Sparse.mapAll, hf]
  | cons p m ih =>
    have hm : Sparse.Canonical d b m := ⟨(List.pairwise_cons.mp h.1).2, fun q hq => h.2 q (by simp [hq])⟩
    have ih := ih hm
    have hrest : p.1 = k → Sparse.get d (Sparse.mapAll d f m) k = d := by
      intro hp
      have hn : ∀ q ∈ Sparse.mapAll d f m, q.1 ≠ k := by
        intro q hq
        obtain ⟨r, hr, hkey, -⟩ := Sparse.key_of_mem_mapAll hq
        have := (List.pairwise_cons.mp h.1).1 r hr
        omega
      generalize Sparse.mapAll d f m = n at hn
      induction n with
      | nil => rfl
      | cons q n ihn =>
        rw [Sparse.get_cons, if_neg (hn q (by simp))]
        exact ihn fun r hr => hn r (by simp [hr])
    by_cases hv : f p.2 = d
    · have hmap : Sparse.mapAll d f (p :: m) = Sparse.mapAll d f m := by simp [Sparse.mapAll, hv]
      rw [hmap, Sparse.get_cons]
      split
      · rename_i hp
        rw [hrest hp, hv]
      · exact ih
    · have hmap : Sparse.mapAll d f (p :: m) = (p.1, f p.2) :: Sparse.mapAll d f m := by simp [Sparse.mapAll, hv]
      rw [hmap, Sparse.get_cons, Sparse.get_cons]
      split
      · rfl
      · exact ih

omit [DecidableEq α] in
/-- A property of every listed entry and of the unlisted one holds of what is read. -/
theorem Sparse.get_of_forall {d : α} {m : Sparse α} {P : α → Prop} (hd : P d) (h : ∀ p ∈ m, P p.2) (k : Nat) :
    P (Sparse.get d m k) := by
  induction m with
  | nil => exact hd
  | cons p m ih =>
    rw [Sparse.get_cons]
    split
    · exact h p (by simp)
    · exact ih fun q hq => h q (by simp [hq])

end Arrays

/-! ### Memory -/

@[simp] theorem readByte_writeByte_same (m : Memory) (a : Nat) (b : Byte) : readByte (writeByte m a b) a = b :=
  Sparse.get_put_same _ _ _ _

theorem readByte_writeByte_other (m : Memory) {a c : Nat} (b : Byte) (h : c ≠ a) :
    readByte (writeByte m a b) c = readByte m c := Sparse.get_put_other _ _ _ h

/-- What consecutive bytes written leave at an address. -/
theorem readByte_writeBytes (m : Memory) (a : Nat) (bs : List Byte) (c : Nat) :
    readByte (writeBytes m a bs) c =
      if a ≤ c ∧ c < a + bs.length then bs.getD (c - a) 0 else readByte m c := by
  induction bs generalizing m a with
  | nil => simp [writeBytes]
  | cons b bs ih =>
    rw [writeBytes, ih]
    by_cases hc : c = a
    · subst hc
      simp
    · rw [readByte_writeByte_other m b hc]
      by_cases h : a ≤ c ∧ c < a + (b :: bs).length
      · have h1 : a + 1 ≤ c ∧ c < a + 1 + bs.length := by
          simp only [List.length_cons] at h
          omega
        have h2 : c - a = (c - (a + 1)) + 1 := by omega
        rw [if_pos h, if_pos h1, h2]
        rfl
      · have h1 : ¬(a + 1 ≤ c ∧ c < a + 1 + bs.length) := by
          simp only [List.length_cons] at h
          omega
        rw [if_neg h, if_neg h1]

theorem writeByte_wf {m : Memory} (h : m.wf) {a : Nat} (ha : a < 2 ^ 32) (b : Byte) : (writeByte m a b).wf :=
  Sparse.canonical_put h ha b

theorem writeBytes_wf {m : Memory} (h : m.wf) {a : Nat} {bs : List Byte} (ha : a + bs.length ≤ 2 ^ 32) :
    (writeBytes m a bs).wf := by
  induction bs generalizing m a with
  | nil => exact h
  | cons b bs ih =>
    simp only [List.length_cons] at ha
    exact ih (writeByte_wf h (by omega) b) (by omega)

theorem lineBytes_length (d : LineData) : (lineBytes d).length = 32 := by simp [lineBytes]

/-- With the derived tag width a line address is the tag, the set and five zeros (rule R196). -/
theorem lineAddress_toNat {c : Config} (hc : c.cacheTagBits = 20) (tag : BitVec 23) (set : BitVec 7) :
    (lineAddress c tag set).toNat = tag.toNat % 2 ^ 20 * 4096 + set.toNat * 32 := by
  have h : set.toNat < 2 ^ 7 := set.isLt
  simp only [lineAddress, if_pos hc, BitVec.toNat_append, BitVec.toNat_ofNat, Nat.zero_mod, Nat.or_zero,
    BitVec.toNat_setWidth]
  rw [← Nat.shiftLeft_add_eq_or_of_lt h, Nat.shiftLeft_eq, Nat.shiftLeft_eq]
  ring

/-- A line address is a multiple of 32 (rule R196). -/
theorem lineAddress_mod (c : Config) (tag : BitVec 23) (set : BitVec 7) : (lineAddress c tag set).toNat % 32 = 0 := by
  unfold lineAddress
  split <;>
    simp only [BitVec.toNat_append, BitVec.toNat_ofNat, Nat.zero_mod, Nat.or_zero, Nat.shiftLeft_eq] <;> omega

/-- The writeback of a line keeps memory in canonical form: a line address leaves room for 32 bytes. -/
theorem writeLine_wf {m : Memory} (h : m.wf) (c : Config) (tag : BitVec 23) (set : BitVec 7) (d : LineData) :
    (writeLine m (lineAddress c tag set) d).wf := by
  refine writeBytes_wf h ?_
  have h1 := (lineAddress c tag set).isLt
  have h2 := lineAddress_mod c tag set
  rw [lineBytes_length]
  omega

/-- Reset memory and code memory list nothing. -/
theorem reset_memory_wf : State.reset.mem.wf ∧ State.reset.code.wf :=
  ⟨Sparse.canonical_nil _ _, Sparse.canonical_nil _ _⟩

end Sys2Proof.Machine
end

