-- ==== Sys2Proof/Laws/State.lean ====
section
/-!
SUPPORT. One lemma for every field of the state and every update of one of its parts.
-/

namespace Sys2Proof.Machine

section WithCore
variable (s : State) (x : Core)
@[simp] theorem withCore_cfg : (s.withCore x).cfg = s.cfg := rfl
@[simp] theorem withCore_core : (s.withCore x).core = x := rfl
@[simp] theorem withCore_mca : (s.withCore x).mca = s.mca := rfl
@[simp] theorem withCore_mct : (s.withCore x).mct = s.mct := rfl
@[simp] theorem withCore_parity : (s.withCore x).parity = s.parity := rfl
@[simp] theorem withCore_cacheTest : (s.withCore x).cacheTest = s.cacheTest := rfl
@[simp] theorem withCore_tlbTest : (s.withCore x).tlbTest = s.tlbTest := rfl
@[simp] theorem withCore_tlbSequence : (s.withCore x).tlbSequence = s.tlbSequence := rfl
@[simp] theorem withCore_btbTest : (s.withCore x).btbTest = s.btbTest := rfl
@[simp] theorem withCore_tr12 : (s.withCore x).tr12 = s.tr12 := rfl
@[simp] theorem withCore_perf : (s.withCore x).perf = s.perf := rfl
@[simp] theorem withCore_caches : (s.withCore x).caches = s.caches := rfl
@[simp] theorem withCore_tlbs : (s.withCore x).tlbs = s.tlbs := rfl
@[simp] theorem withCore_btb : (s.withCore x).btb = s.btb := rfl
@[simp] theorem withCore_mem : (s.withCore x).mem = s.mem := rfl
@[simp] theorem withCore_code : (s.withCore x).code = s.code := rfl
@[simp] theorem withCore_run : (s.withCore x).run = s.run := rfl
@[simp] theorem withCore_pins : (s.withCore x).pins = s.pins := rfl
@[simp] theorem withCore_trace : (s.withCore x).trace = s.trace := rfl
@[simp] theorem withCore_occurred : (s.withCore x).occurred = s.occurred := rfl
@[simp] theorem withCore_agenda : (s.withCore x).agenda = s.agenda := rfl
@[simp] theorem withCore_draws : (s.withCore x).draws = s.draws := rfl
end WithCore

section WithMachineCheck
variable (s : State) (a b : Quad)
@[simp] theorem withMachineCheck_cfg : (s.withMachineCheck a b).cfg = s.cfg := rfl
@[simp] theorem withMachineCheck_core : (s.withMachineCheck a b).core = s.core := rfl
@[simp] theorem withMachineCheck_mca : (s.withMachineCheck a b).mca = a := rfl
@[simp] theorem withMachineCheck_mct : (s.withMachineCheck a b).mct = b := rfl
@[simp] theorem withMachineCheck_parity : (s.withMachineCheck a b).parity = s.parity := rfl
@[simp] theorem withMachineCheck_cacheTest : (s.withMachineCheck a b).cacheTest = s.cacheTest := rfl
@[simp] theorem withMachineCheck_tlbTest : (s.withMachineCheck a b).tlbTest = s.tlbTest := rfl
@[simp] theorem withMachineCheck_tlbSequence : (s.withMachineCheck a b).tlbSequence = s.tlbSequence := rfl
@[simp] theorem withMachineCheck_btbTest : (s.withMachineCheck a b).btbTest = s.btbTest := rfl
@[simp] theorem withMachineCheck_tr12 : (s.withMachineCheck a b).tr12 = s.tr12 := rfl
@[simp] theorem withMachineCheck_perf : (s.withMachineCheck a b).perf = s.perf := rfl
@[simp] theorem withMachineCheck_caches : (s.withMachineCheck a b).caches = s.caches := rfl
@[simp] theorem withMachineCheck_tlbs : (s.withMachineCheck a b).tlbs = s.tlbs := rfl
@[simp] theorem withMachineCheck_btb : (s.withMachineCheck a b).btb = s.btb := rfl
@[simp] theorem withMachineCheck_mem : (s.withMachineCheck a b).mem = s.mem := rfl
@[simp] theorem withMachineCheck_code : (s.withMachineCheck a b).code = s.code := rfl
@[simp] theorem withMachineCheck_run : (s.withMachineCheck a b).run = s.run := rfl
@[simp] theorem withMachineCheck_pins : (s.withMachineCheck a b).pins = s.pins := rfl
@[simp] theorem withMachineCheck_trace : (s.withMachineCheck a b).trace = s.trace := rfl
@[simp] theorem withMachineCheck_occurred : (s.withMachineCheck a b).occurred = s.occurred := rfl
@[simp] theorem withMachineCheck_agenda : (s.withMachineCheck a b).agenda = s.agenda := rfl
@[simp] theorem withMachineCheck_draws : (s.withMachineCheck a b).draws = s.draws := rfl
end WithMachineCheck

section WithParity
variable (s : State) (x : Parity)
@[simp] theorem withParity_cfg : (s.withParity x).cfg = s.cfg := rfl
@[simp] theorem withParity_core : (s.withParity x).core = s.core := rfl
@[simp] theorem withParity_mca : (s.withParity x).mca = s.mca := rfl
@[simp] theorem withParity_mct : (s.withParity x).mct = s.mct := rfl
@[simp] theorem withParity_parity : (s.withParity x).parity = x := rfl
@[simp] theorem withParity_cacheTest : (s.withParity x).cacheTest = s.cacheTest := rfl
@[simp] theorem withParity_tlbTest : (s.withParity x).tlbTest = s.tlbTest := rfl
@[simp] theorem withParity_tlbSequence : (s.withParity x).tlbSequence = s.tlbSequence := rfl
@[simp] theorem withParity_btbTest : (s.withParity x).btbTest = s.btbTest := rfl
@[simp] theorem withParity_tr12 : (s.withParity x).tr12 = s.tr12 := rfl
@[simp] theorem withParity_perf : (s.withParity x).perf = s.perf := rfl
@[simp] theorem withParity_caches : (s.withParity x).caches = s.caches := rfl
@[simp] theorem withParity_tlbs : (s.withParity x).tlbs = s.tlbs := rfl
@[simp] theorem withParity_btb : (s.withParity x).btb = s.btb := rfl
@[simp] theorem withParity_mem : (s.withParity x).mem = s.mem := rfl
@[simp] theorem withParity_code : (s.withParity x).code = s.code := rfl
@[simp] theorem withParity_run : (s.withParity x).run = s.run := rfl
@[simp] theorem withParity_pins : (s.withParity x).pins = s.pins := rfl
@[simp] theorem withParity_trace : (s.withParity x).trace = s.trace := rfl
@[simp] theorem withParity_occurred : (s.withParity x).occurred = s.occurred := rfl
@[simp] theorem withParity_agenda : (s.withParity x).agenda = s.agenda := rfl
@[simp] theorem withParity_draws : (s.withParity x).draws = s.draws := rfl
end WithParity

section WithCacheTest
variable (s : State) (x : CacheTest)
@[simp] theorem withCacheTest_cfg : (s.withCacheTest x).cfg = s.cfg := rfl
@[simp] theorem withCacheTest_core : (s.withCacheTest x).core = s.core := rfl
@[simp] theorem withCacheTest_mca : (s.withCacheTest x).mca = s.mca := rfl
@[simp] theorem withCacheTest_mct : (s.withCacheTest x).mct = s.mct := rfl
@[simp] theorem withCacheTest_parity : (s.withCacheTest x).parity = s.parity := rfl
@[simp] theorem withCacheTest_cacheTest : (s.withCacheTest x).cacheTest = x := rfl
@[simp] theorem withCacheTest_tlbTest : (s.withCacheTest x).tlbTest = s.tlbTest := rfl
@[simp] theorem withCacheTest_tlbSequence : (s.withCacheTest x).tlbSequence = s.tlbSequence := rfl
@[simp] theorem withCacheTest_btbTest : (s.withCacheTest x).btbTest = s.btbTest := rfl
@[simp] theorem withCacheTest_tr12 : (s.withCacheTest x).tr12 = s.tr12 := rfl
@[simp] theorem withCacheTest_perf : (s.withCacheTest x).perf = s.perf := rfl
@[simp] theorem withCacheTest_caches : (s.withCacheTest x).caches = s.caches := rfl
@[simp] theorem withCacheTest_tlbs : (s.withCacheTest x).tlbs = s.tlbs := rfl
@[simp] theorem withCacheTest_btb : (s.withCacheTest x).btb = s.btb := rfl
@[simp] theorem withCacheTest_mem : (s.withCacheTest x).mem = s.mem := rfl
@[simp] theorem withCacheTest_code : (s.withCacheTest x).code = s.code := rfl
@[simp] theorem withCacheTest_run : (s.withCacheTest x).run = s.run := rfl
@[simp] theorem withCacheTest_pins : (s.withCacheTest x).pins = s.pins := rfl
@[simp] theorem withCacheTest_trace : (s.withCacheTest x).trace = s.trace := rfl
@[simp] theorem withCacheTest_occurred : (s.withCacheTest x).occurred = s.occurred := rfl
@[simp] theorem withCacheTest_agenda : (s.withCacheTest x).agenda = s.agenda := rfl
@[simp] theorem withCacheTest_draws : (s.withCacheTest x).draws = s.draws := rfl
end WithCacheTest

section WithTlbTest
variable (s : State) (x : TlbTest)
@[simp] theorem withTlbTest_cfg : (s.withTlbTest x).cfg = s.cfg := rfl
@[simp] theorem withTlbTest_core : (s.withTlbTest x).core = s.core := rfl
@[simp] theorem withTlbTest_mca : (s.withTlbTest x).mca = s.mca := rfl
@[simp] theorem withTlbTest_mct : (s.withTlbTest x).mct = s.mct := rfl
@[simp] theorem withTlbTest_parity : (s.withTlbTest x).parity = s.parity := rfl
@[simp] theorem withTlbTest_cacheTest : (s.withTlbTest x).cacheTest = s.cacheTest := rfl
@[simp] theorem withTlbTest_tlbTest : (s.withTlbTest x).tlbTest = x := rfl
@[simp] theorem withTlbTest_tlbSequence : (s.withTlbTest x).tlbSequence = s.tlbSequence := rfl
@[simp] theorem withTlbTest_btbTest : (s.withTlbTest x).btbTest = s.btbTest := rfl
@[simp] theorem withTlbTest_tr12 : (s.withTlbTest x).tr12 = s.tr12 := rfl
@[simp] theorem withTlbTest_perf : (s.withTlbTest x).perf = s.perf := rfl
@[simp] theorem withTlbTest_caches : (s.withTlbTest x).caches = s.caches := rfl
@[simp] theorem withTlbTest_tlbs : (s.withTlbTest x).tlbs = s.tlbs := rfl
@[simp] theorem withTlbTest_btb : (s.withTlbTest x).btb = s.btb := rfl
@[simp] theorem withTlbTest_mem : (s.withTlbTest x).mem = s.mem := rfl
@[simp] theorem withTlbTest_code : (s.withTlbTest x).code = s.code := rfl
@[simp] theorem withTlbTest_run : (s.withTlbTest x).run = s.run := rfl
@[simp] theorem withTlbTest_pins : (s.withTlbTest x).pins = s.pins := rfl
@[simp] theorem withTlbTest_trace : (s.withTlbTest x).trace = s.trace := rfl
@[simp] theorem withTlbTest_occurred : (s.withTlbTest x).occurred = s.occurred := rfl
@[simp] theorem withTlbTest_agenda : (s.withTlbTest x).agenda = s.agenda := rfl
@[simp] theorem withTlbTest_draws : (s.withTlbTest x).draws = s.draws := rfl
end WithTlbTest

section WithTlbSequence
variable (s : State) (x : TlbSequence)
@[simp] theorem withTlbSequence_cfg : (s.withTlbSequence x).cfg = s.cfg := rfl
@[simp] theorem withTlbSequence_core : (s.withTlbSequence x).core = s.core := rfl
@[simp] theorem withTlbSequence_mca : (s.withTlbSequence x).mca = s.mca := rfl
@[simp] theorem withTlbSequence_mct : (s.withTlbSequence x).mct = s.mct := rfl
@[simp] theorem withTlbSequence_parity : (s.withTlbSequence x).parity = s.parity := rfl
@[simp] theorem withTlbSequence_cacheTest : (s.withTlbSequence x).cacheTest = s.cacheTest := rfl
@[simp] theorem withTlbSequence_tlbTest : (s.withTlbSequence x).tlbTest = s.tlbTest := rfl
@[simp] theorem withTlbSequence_tlbSequence : (s.withTlbSequence x).tlbSequence = x := rfl
@[simp] theorem withTlbSequence_btbTest : (s.withTlbSequence x).btbTest = s.btbTest := rfl
@[simp] theorem withTlbSequence_tr12 : (s.withTlbSequence x).tr12 = s.tr12 := rfl
@[simp] theorem withTlbSequence_perf : (s.withTlbSequence x).perf = s.perf := rfl
@[simp] theorem withTlbSequence_caches : (s.withTlbSequence x).caches = s.caches := rfl
@[simp] theorem withTlbSequence_tlbs : (s.withTlbSequence x).tlbs = s.tlbs := rfl
@[simp] theorem withTlbSequence_btb : (s.withTlbSequence x).btb = s.btb := rfl
@[simp] theorem withTlbSequence_mem : (s.withTlbSequence x).mem = s.mem := rfl
@[simp] theorem withTlbSequence_code : (s.withTlbSequence x).code = s.code := rfl
@[simp] theorem withTlbSequence_run : (s.withTlbSequence x).run = s.run := rfl
@[simp] theorem withTlbSequence_pins : (s.withTlbSequence x).pins = s.pins := rfl
@[simp] theorem withTlbSequence_trace : (s.withTlbSequence x).trace = s.trace := rfl
@[simp] theorem withTlbSequence_occurred : (s.withTlbSequence x).occurred = s.occurred := rfl
@[simp] theorem withTlbSequence_agenda : (s.withTlbSequence x).agenda = s.agenda := rfl
@[simp] theorem withTlbSequence_draws : (s.withTlbSequence x).draws = s.draws := rfl
end WithTlbSequence

section WithBtbTest
variable (s : State) (x : BtbTest)
@[simp] theorem withBtbTest_cfg : (s.withBtbTest x).cfg = s.cfg := rfl
@[simp] theorem withBtbTest_core : (s.withBtbTest x).core = s.core := rfl
@[simp] theorem withBtbTest_mca : (s.withBtbTest x).mca = s.mca := rfl
@[simp] theorem withBtbTest_mct : (s.withBtbTest x).mct = s.mct := rfl
@[simp] theorem withBtbTest_parity : (s.withBtbTest x).parity = s.parity := rfl
@[simp] theorem withBtbTest_cacheTest : (s.withBtbTest x).cacheTest = s.cacheTest := rfl
@[simp] theorem withBtbTest_tlbTest : (s.withBtbTest x).tlbTest = s.tlbTest := rfl
@[simp] theorem withBtbTest_tlbSequence : (s.withBtbTest x).tlbSequence = s.tlbSequence := rfl
@[simp] theorem withBtbTest_btbTest : (s.withBtbTest x).btbTest = x := rfl
@[simp] theorem withBtbTest_tr12 : (s.withBtbTest x).tr12 = s.tr12 := rfl
@[simp] theorem withBtbTest_perf : (s.withBtbTest x).perf = s.perf := rfl
@[simp] theorem withBtbTest_caches : (s.withBtbTest x).caches = s.caches := rfl
@[simp] theorem withBtbTest_tlbs : (s.withBtbTest x).tlbs = s.tlbs := rfl
@[simp] theorem withBtbTest_btb : (s.withBtbTest x).btb = s.btb := rfl
@[simp] theorem withBtbTest_mem : (s.withBtbTest x).mem = s.mem := rfl
@[simp] theorem withBtbTest_code : (s.withBtbTest x).code = s.code := rfl
@[simp] theorem withBtbTest_run : (s.withBtbTest x).run = s.run := rfl
@[simp] theorem withBtbTest_pins : (s.withBtbTest x).pins = s.pins := rfl
@[simp] theorem withBtbTest_trace : (s.withBtbTest x).trace = s.trace := rfl
@[simp] theorem withBtbTest_occurred : (s.withBtbTest x).occurred = s.occurred := rfl
@[simp] theorem withBtbTest_agenda : (s.withBtbTest x).agenda = s.agenda := rfl
@[simp] theorem withBtbTest_draws : (s.withBtbTest x).draws = s.draws := rfl
end WithBtbTest

section WithTr12
variable (s : State) (x : Quad)
@[simp] theorem withTr12_cfg : (s.withTr12 x).cfg = s.cfg := rfl
@[simp] theorem withTr12_core : (s.withTr12 x).core = s.core := rfl
@[simp] theorem withTr12_mca : (s.withTr12 x).mca = s.mca := rfl
@[simp] theorem withTr12_mct : (s.withTr12 x).mct = s.mct := rfl
@[simp] theorem withTr12_parity : (s.withTr12 x).parity = s.parity := rfl
@[simp] theorem withTr12_cacheTest : (s.withTr12 x).cacheTest = s.cacheTest := rfl
@[simp] theorem withTr12_tlbTest : (s.withTr12 x).tlbTest = s.tlbTest := rfl
@[simp] theorem withTr12_tlbSequence : (s.withTr12 x).tlbSequence = s.tlbSequence := rfl
@[simp] theorem withTr12_btbTest : (s.withTr12 x).btbTest = s.btbTest := rfl
@[simp] theorem withTr12_tr12 : (s.withTr12 x).tr12 = x := rfl
@[simp] theorem withTr12_perf : (s.withTr12 x).perf = s.perf := rfl
@[simp] theorem withTr12_caches : (s.withTr12 x).caches = s.caches := rfl
@[simp] theorem withTr12_tlbs : (s.withTr12 x).tlbs = s.tlbs := rfl
@[simp] theorem withTr12_btb : (s.withTr12 x).btb = s.btb := rfl
@[simp] theorem withTr12_mem : (s.withTr12 x).mem = s.mem := rfl
@[simp] theorem withTr12_code : (s.withTr12 x).code = s.code := rfl
@[simp] theorem withTr12_run : (s.withTr12 x).run = s.run := rfl
@[simp] theorem withTr12_pins : (s.withTr12 x).pins = s.pins := rfl
@[simp] theorem withTr12_trace : (s.withTr12 x).trace = s.trace := rfl
@[simp] theorem withTr12_occurred : (s.withTr12 x).occurred = s.occurred := rfl
@[simp] theorem withTr12_agenda : (s.withTr12 x).agenda = s.agenda := rfl
@[simp] theorem withTr12_draws : (s.withTr12 x).draws = s.draws := rfl
end WithTr12

section WithPerf
variable (s : State) (x : Perf)
@[simp] theorem withPerf_cfg : (s.withPerf x).cfg = s.cfg := rfl
@[simp] theorem withPerf_core : (s.withPerf x).core = s.core := rfl
@[simp] theorem withPerf_mca : (s.withPerf x).mca = s.mca := rfl
@[simp] theorem withPerf_mct : (s.withPerf x).mct = s.mct := rfl
@[simp] theorem withPerf_parity : (s.withPerf x).parity = s.parity := rfl
@[simp] theorem withPerf_cacheTest : (s.withPerf x).cacheTest = s.cacheTest := rfl
@[simp] theorem withPerf_tlbTest : (s.withPerf x).tlbTest = s.tlbTest := rfl
@[simp] theorem withPerf_tlbSequence : (s.withPerf x).tlbSequence = s.tlbSequence := rfl
@[simp] theorem withPerf_btbTest : (s.withPerf x).btbTest = s.btbTest := rfl
@[simp] theorem withPerf_tr12 : (s.withPerf x).tr12 = s.tr12 := rfl
@[simp] theorem withPerf_perf : (s.withPerf x).perf = x := rfl
@[simp] theorem withPerf_caches : (s.withPerf x).caches = s.caches := rfl
@[simp] theorem withPerf_tlbs : (s.withPerf x).tlbs = s.tlbs := rfl
@[simp] theorem withPerf_btb : (s.withPerf x).btb = s.btb := rfl
@[simp] theorem withPerf_mem : (s.withPerf x).mem = s.mem := rfl
@[simp] theorem withPerf_code : (s.withPerf x).code = s.code := rfl
@[simp] theorem withPerf_run : (s.withPerf x).run = s.run := rfl
@[simp] theorem withPerf_pins : (s.withPerf x).pins = s.pins := rfl
@[simp] theorem withPerf_trace : (s.withPerf x).trace = s.trace := rfl
@[simp] theorem withPerf_occurred : (s.withPerf x).occurred = s.occurred := rfl
@[simp] theorem withPerf_agenda : (s.withPerf x).agenda = s.agenda := rfl
@[simp] theorem withPerf_draws : (s.withPerf x).draws = s.draws := rfl
end WithPerf

section WithCaches
variable (s : State) (x : Caches)
@[simp] theorem withCaches_cfg : (s.withCaches x).cfg = s.cfg := rfl
@[simp] theorem withCaches_core : (s.withCaches x).core = s.core := rfl
@[simp] theorem withCaches_mca : (s.withCaches x).mca = s.mca := rfl
@[simp] theorem withCaches_mct : (s.withCaches x).mct = s.mct := rfl
@[simp] theorem withCaches_parity : (s.withCaches x).parity = s.parity := rfl
@[simp] theorem withCaches_cacheTest : (s.withCaches x).cacheTest = s.cacheTest := rfl
@[simp] theorem withCaches_tlbTest : (s.withCaches x).tlbTest = s.tlbTest := rfl
@[simp] theorem withCaches_tlbSequence : (s.withCaches x).tlbSequence = s.tlbSequence := rfl
@[simp] theorem withCaches_btbTest : (s.withCaches x).btbTest = s.btbTest := rfl
@[simp] theorem withCaches_tr12 : (s.withCaches x).tr12 = s.tr12 := rfl
@[simp] theorem withCaches_perf : (s.withCaches x).perf = s.perf := rfl
@[simp] theorem withCaches_caches : (s.withCaches x).caches = x := rfl
@[simp] theorem withCaches_tlbs : (s.withCaches x).tlbs = s.tlbs := rfl
@[simp] theorem withCaches_btb : (s.withCaches x).btb = s.btb := rfl
@[simp] theorem withCaches_mem : (s.withCaches x).mem = s.mem := rfl
@[simp] theorem withCaches_code : (s.withCaches x).code = s.code := rfl
@[simp] theorem withCaches_run : (s.withCaches x).run = s.run := rfl
@[simp] theorem withCaches_pins : (s.withCaches x).pins = s.pins := rfl
@[simp] theorem withCaches_trace : (s.withCaches x).trace = s.trace := rfl
@[simp] theorem withCaches_occurred : (s.withCaches x).occurred = s.occurred := rfl
@[simp] theorem withCaches_agenda : (s.withCaches x).agenda = s.agenda := rfl
@[simp] theorem withCaches_draws : (s.withCaches x).draws = s.draws := rfl
end WithCaches

section WithTlbs
variable (s : State) (x : Tlbs)
@[simp] theorem withTlbs_cfg : (s.withTlbs x).cfg = s.cfg := rfl
@[simp] theorem withTlbs_core : (s.withTlbs x).core = s.core := rfl
@[simp] theorem withTlbs_mca : (s.withTlbs x).mca = s.mca := rfl
@[simp] theorem withTlbs_mct : (s.withTlbs x).mct = s.mct := rfl
@[simp] theorem withTlbs_parity : (s.withTlbs x).parity = s.parity := rfl
@[simp] theorem withTlbs_cacheTest : (s.withTlbs x).cacheTest = s.cacheTest := rfl
@[simp] theorem withTlbs_tlbTest : (s.withTlbs x).tlbTest = s.tlbTest := rfl
@[simp] theorem withTlbs_tlbSequence : (s.withTlbs x).tlbSequence = s.tlbSequence := rfl
@[simp] theorem withTlbs_btbTest : (s.withTlbs x).btbTest = s.btbTest := rfl
@[simp] theorem withTlbs_tr12 : (s.withTlbs x).tr12 = s.tr12 := rfl
@[simp] theorem withTlbs_perf : (s.withTlbs x).perf = s.perf := rfl
@[simp] theorem withTlbs_caches : (s.withTlbs x).caches = s.caches := rfl
@[simp] theorem withTlbs_tlbs : (s.withTlbs x).tlbs = x := rfl
@[simp] theorem withTlbs_btb : (s.withTlbs x).btb = s.btb := rfl
@[simp] theorem withTlbs_mem : (s.withTlbs x).mem = s.mem := rfl
@[simp] theorem withTlbs_code : (s.withTlbs x).code = s.code := rfl
@[simp] theorem withTlbs_run : (s.withTlbs x).run = s.run := rfl
@[simp] theorem withTlbs_pins : (s.withTlbs x).pins = s.pins := rfl
@[simp] theorem withTlbs_trace : (s.withTlbs x).trace = s.trace := rfl
@[simp] theorem withTlbs_occurred : (s.withTlbs x).occurred = s.occurred := rfl
@[simp] theorem withTlbs_agenda : (s.withTlbs x).agenda = s.agenda := rfl
@[simp] theorem withTlbs_draws : (s.withTlbs x).draws = s.draws := rfl
end WithTlbs

section WithBtb
variable (s : State) (x : Sparse BtbEntry)
@[simp] theorem withBtb_cfg : (s.withBtb x).cfg = s.cfg := rfl
@[simp] theorem withBtb_core : (s.withBtb x).core = s.core := rfl
@[simp] theorem withBtb_mca : (s.withBtb x).mca = s.mca := rfl
@[simp] theorem withBtb_mct : (s.withBtb x).mct = s.mct := rfl
@[simp] theorem withBtb_parity : (s.withBtb x).parity = s.parity := rfl
@[simp] theorem withBtb_cacheTest : (s.withBtb x).cacheTest = s.cacheTest := rfl
@[simp] theorem withBtb_tlbTest : (s.withBtb x).tlbTest = s.tlbTest := rfl
@[simp] theorem withBtb_tlbSequence : (s.withBtb x).tlbSequence = s.tlbSequence := rfl
@[simp] theorem withBtb_btbTest : (s.withBtb x).btbTest = s.btbTest := rfl
@[simp] theorem withBtb_tr12 : (s.withBtb x).tr12 = s.tr12 := rfl
@[simp] theorem withBtb_perf : (s.withBtb x).perf = s.perf := rfl
@[simp] theorem withBtb_caches : (s.withBtb x).caches = s.caches := rfl
@[simp] theorem withBtb_tlbs : (s.withBtb x).tlbs = s.tlbs := rfl
@[simp] theorem withBtb_btb : (s.withBtb x).btb = x := rfl
@[simp] theorem withBtb_mem : (s.withBtb x).mem = s.mem := rfl
@[simp] theorem withBtb_code : (s.withBtb x).code = s.code := rfl
@[simp] theorem withBtb_run : (s.withBtb x).run = s.run := rfl
@[simp] theorem withBtb_pins : (s.withBtb x).pins = s.pins := rfl
@[simp] theorem withBtb_trace : (s.withBtb x).trace = s.trace := rfl
@[simp] theorem withBtb_occurred : (s.withBtb x).occurred = s.occurred := rfl
@[simp] theorem withBtb_agenda : (s.withBtb x).agenda = s.agenda := rfl
@[simp] theorem withBtb_draws : (s.withBtb x).draws = s.draws := rfl
end WithBtb

section WithMem
variable (s : State) (x : Memory)
@[simp] theorem withMem_cfg : (s.withMem x).cfg = s.cfg := rfl
@[simp] theorem withMem_core : (s.withMem x).core = s.core := rfl
@[simp] theorem withMem_mca : (s.withMem x).mca = s.mca := rfl
@[simp] theorem withMem_mct : (s.withMem x).mct = s.mct := rfl
@[simp] theorem withMem_parity : (s.withMem x).parity = s.parity := rfl
@[simp] theorem withMem_cacheTest : (s.withMem x).cacheTest = s.cacheTest := rfl
@[simp] theorem withMem_tlbTest : (s.withMem x).tlbTest = s.tlbTest := rfl
@[simp] theorem withMem_tlbSequence : (s.withMem x).tlbSequence = s.tlbSequence := rfl
@[simp] theorem withMem_btbTest : (s.withMem x).btbTest = s.btbTest := rfl
@[simp] theorem withMem_tr12 : (s.withMem x).tr12 = s.tr12 := rfl
@[simp] theorem withMem_perf : (s.withMem x).perf = s.perf := rfl
@[simp] theorem withMem_caches : (s.withMem x).caches = s.caches := rfl
@[simp] theorem withMem_tlbs : (s.withMem x).tlbs = s.tlbs := rfl
@[simp] theorem withMem_btb : (s.withMem x).btb = s.btb := rfl
@[simp] theorem withMem_mem : (s.withMem x).mem = x := rfl
@[simp] theorem withMem_code : (s.withMem x).code = s.code := rfl
@[simp] theorem withMem_run : (s.withMem x).run = s.run := rfl
@[simp] theorem withMem_pins : (s.withMem x).pins = s.pins := rfl
@[simp] theorem withMem_trace : (s.withMem x).trace = s.trace := rfl
@[simp] theorem withMem_occurred : (s.withMem x).occurred = s.occurred := rfl
@[simp] theorem withMem_agenda : (s.withMem x).agenda = s.agenda := rfl
@[simp] theorem withMem_draws : (s.withMem x).draws = s.draws := rfl
end WithMem

section WithCode
variable (s : State) (x : Memory)
@[simp] theorem withCode_cfg : (s.withCode x).cfg = s.cfg := rfl
@[simp] theorem withCode_core : (s.withCode x).core = s.core := rfl
@[simp] theorem withCode_mca : (s.withCode x).mca = s.mca := rfl
@[simp] theorem withCode_mct : (s.withCode x).mct = s.mct := rfl
@[simp] theorem withCode_parity : (s.withCode x).parity = s.parity := rfl
@[simp] theorem withCode_cacheTest : (s.withCode x).cacheTest = s.cacheTest := rfl
@[simp] theorem withCode_tlbTest : (s.withCode x).tlbTest = s.tlbTest := rfl
@[simp] theorem withCode_tlbSequence : (s.withCode x).tlbSequence = s.tlbSequence := rfl
@[simp] theorem withCode_btbTest : (s.withCode x).btbTest = s.btbTest := rfl
@[simp] theorem withCode_tr12 : (s.withCode x).tr12 = s.tr12 := rfl
@[simp] theorem withCode_perf : (s.withCode x).perf = s.perf := rfl
@[simp] theorem withCode_caches : (s.withCode x).caches = s.caches := rfl
@[simp] theorem withCode_tlbs : (s.withCode x).tlbs = s.tlbs := rfl
@[simp] theorem withCode_btb : (s.withCode x).btb = s.btb := rfl
@[simp] theorem withCode_mem : (s.withCode x).mem = s.mem := rfl
@[simp] theorem withCode_code : (s.withCode x).code = x := rfl
@[simp] theorem withCode_run : (s.withCode x).run = s.run := rfl
@[simp] theorem withCode_pins : (s.withCode x).pins = s.pins := rfl
@[simp] theorem withCode_trace : (s.withCode x).trace = s.trace := rfl
@[simp] theorem withCode_occurred : (s.withCode x).occurred = s.occurred := rfl
@[simp] theorem withCode_agenda : (s.withCode x).agenda = s.agenda := rfl
@[simp] theorem withCode_draws : (s.withCode x).draws = s.draws := rfl
end WithCode

section WithRun
variable (s : State) (x : RunState)
@[simp] theorem withRun_cfg : (s.withRun x).cfg = s.cfg := rfl
@[simp] theorem withRun_core : (s.withRun x).core = s.core := rfl
@[simp] theorem withRun_mca : (s.withRun x).mca = s.mca := rfl
@[simp] theorem withRun_mct : (s.withRun x).mct = s.mct := rfl
@[simp] theorem withRun_parity : (s.withRun x).parity = s.parity := rfl
@[simp] theorem withRun_cacheTest : (s.withRun x).cacheTest = s.cacheTest := rfl
@[simp] theorem withRun_tlbTest : (s.withRun x).tlbTest = s.tlbTest := rfl
@[simp] theorem withRun_tlbSequence : (s.withRun x).tlbSequence = s.tlbSequence := rfl
@[simp] theorem withRun_btbTest : (s.withRun x).btbTest = s.btbTest := rfl
@[simp] theorem withRun_tr12 : (s.withRun x).tr12 = s.tr12 := rfl
@[simp] theorem withRun_perf : (s.withRun x).perf = s.perf := rfl
@[simp] theorem withRun_caches : (s.withRun x).caches = s.caches := rfl
@[simp] theorem withRun_tlbs : (s.withRun x).tlbs = s.tlbs := rfl
@[simp] theorem withRun_btb : (s.withRun x).btb = s.btb := rfl
@[simp] theorem withRun_mem : (s.withRun x).mem = s.mem := rfl
@[simp] theorem withRun_code : (s.withRun x).code = s.code := rfl
@[simp] theorem withRun_run : (s.withRun x).run = x := rfl
@[simp] theorem withRun_pins : (s.withRun x).pins = s.pins := rfl
@[simp] theorem withRun_trace : (s.withRun x).trace = s.trace := rfl
@[simp] theorem withRun_occurred : (s.withRun x).occurred = s.occurred := rfl
@[simp] theorem withRun_agenda : (s.withRun x).agenda = s.agenda := rfl
@[simp] theorem withRun_draws : (s.withRun x).draws = s.draws := rfl
end WithRun

section WithTrace
variable (s : State) (x : List Output)
@[simp] theorem withTrace_cfg : (s.withTrace x).cfg = s.cfg := rfl
@[simp] theorem withTrace_core : (s.withTrace x).core = s.core := rfl
@[simp] theorem withTrace_mca : (s.withTrace x).mca = s.mca := rfl
@[simp] theorem withTrace_mct : (s.withTrace x).mct = s.mct := rfl
@[simp] theorem withTrace_parity : (s.withTrace x).parity = s.parity := rfl
@[simp] theorem withTrace_cacheTest : (s.withTrace x).cacheTest = s.cacheTest := rfl
@[simp] theorem withTrace_tlbTest : (s.withTrace x).tlbTest = s.tlbTest := rfl
@[simp] theorem withTrace_tlbSequence : (s.withTrace x).tlbSequence = s.tlbSequence := rfl
@[simp] theorem withTrace_btbTest : (s.withTrace x).btbTest = s.btbTest := rfl
@[simp] theorem withTrace_tr12 : (s.withTrace x).tr12 = s.tr12 := rfl
@[simp] theorem withTrace_perf : (s.withTrace x).perf = s.perf := rfl
@[simp] theorem withTrace_caches : (s.withTrace x).caches = s.caches := rfl
@[simp] theorem withTrace_tlbs : (s.withTrace x).tlbs = s.tlbs := rfl
@[simp] theorem withTrace_btb : (s.withTrace x).btb = s.btb := rfl
@[simp] theorem withTrace_mem : (s.withTrace x).mem = s.mem := rfl
@[simp] theorem withTrace_code : (s.withTrace x).code = s.code := rfl
@[simp] theorem withTrace_run : (s.withTrace x).run = s.run := rfl
@[simp] theorem withTrace_pins : (s.withTrace x).pins = s.pins := rfl
@[simp] theorem withTrace_trace : (s.withTrace x).trace = x := rfl
@[simp] theorem withTrace_occurred : (s.withTrace x).occurred = s.occurred := rfl
@[simp] theorem withTrace_agenda : (s.withTrace x).agenda = s.agenda := rfl
@[simp] theorem withTrace_draws : (s.withTrace x).draws = s.draws := rfl
end WithTrace

section WithOccurred
variable (s : State) (x : List Occurrence)
@[simp] theorem withOccurred_cfg : (s.withOccurred x).cfg = s.cfg := rfl
@[simp] theorem withOccurred_core : (s.withOccurred x).core = s.core := rfl
@[simp] theorem withOccurred_mca : (s.withOccurred x).mca = s.mca := rfl
@[simp] theorem withOccurred_mct : (s.withOccurred x).mct = s.mct := rfl
@[simp] theorem withOccurred_parity : (s.withOccurred x).parity = s.parity := rfl
@[simp] theorem withOccurred_cacheTest : (s.withOccurred x).cacheTest = s.cacheTest := rfl
@[simp] theorem withOccurred_tlbTest : (s.withOccurred x).tlbTest = s.tlbTest := rfl
@[simp] theorem withOccurred_tlbSequence : (s.withOccurred x).tlbSequence = s.tlbSequence := rfl
@[simp] theorem withOccurred_btbTest : (s.withOccurred x).btbTest = s.btbTest := rfl
@[simp] theorem withOccurred_tr12 : (s.withOccurred x).tr12 = s.tr12 := rfl
@[simp] theorem withOccurred_perf : (s.withOccurred x).perf = s.perf := rfl
@[simp] theorem withOccurred_caches : (s.withOccurred x).caches = s.caches := rfl
@[simp] theorem withOccurred_tlbs : (s.withOccurred x).tlbs = s.tlbs := rfl
@[simp] theorem withOccurred_btb : (s.withOccurred x).btb = s.btb := rfl
@[simp] theorem withOccurred_mem : (s.withOccurred x).mem = s.mem := rfl
@[simp] theorem withOccurred_code : (s.withOccurred x).code = s.code := rfl
@[simp] theorem withOccurred_run : (s.withOccurred x).run = s.run := rfl
@[simp] theorem withOccurred_pins : (s.withOccurred x).pins = s.pins := rfl
@[simp] theorem withOccurred_trace : (s.withOccurred x).trace = s.trace := rfl
@[simp] theorem withOccurred_occurred : (s.withOccurred x).occurred = x := rfl
@[simp] theorem withOccurred_agenda : (s.withOccurred x).agenda = s.agenda := rfl
@[simp] theorem withOccurred_draws : (s.withOccurred x).draws = s.draws := rfl
end WithOccurred

section WithAgenda
variable (s : State) (x : List Turn)
@[simp] theorem withAgenda_cfg : (s.withAgenda x).cfg = s.cfg := rfl
@[simp] theorem withAgenda_core : (s.withAgenda x).core = s.core := rfl
@[simp] theorem withAgenda_mca : (s.withAgenda x).mca = s.mca := rfl
@[simp] theorem withAgenda_mct : (s.withAgenda x).mct = s.mct := rfl
@[simp] theorem withAgenda_parity : (s.withAgenda x).parity = s.parity := rfl
@[simp] theorem withAgenda_cacheTest : (s.withAgenda x).cacheTest = s.cacheTest := rfl
@[simp] theorem withAgenda_tlbTest : (s.withAgenda x).tlbTest = s.tlbTest := rfl
@[simp] theorem withAgenda_tlbSequence : (s.withAgenda x).tlbSequence = s.tlbSequence := rfl
@[simp] theorem withAgenda_btbTest : (s.withAgenda x).btbTest = s.btbTest := rfl
@[simp] theorem withAgenda_tr12 : (s.withAgenda x).tr12 = s.tr12 := rfl
@[simp] theorem withAgenda_perf : (s.withAgenda x).perf = s.perf := rfl
@[simp] theorem withAgenda_caches : (s.withAgenda x).caches = s.caches := rfl
@[simp] theorem withAgenda_tlbs : (s.withAgenda x).tlbs = s.tlbs := rfl
@[simp] theorem withAgenda_btb : (s.withAgenda x).btb = s.btb := rfl
@[simp] theorem withAgenda_mem : (s.withAgenda x).mem = s.mem := rfl
@[simp] theorem withAgenda_code : (s.withAgenda x).code = s.code := rfl
@[simp] theorem withAgenda_run : (s.withAgenda x).run = s.run := rfl
@[simp] theorem withAgenda_pins : (s.withAgenda x).pins = s.pins := rfl
@[simp] theorem withAgenda_trace : (s.withAgenda x).trace = s.trace := rfl
@[simp] theorem withAgenda_occurred : (s.withAgenda x).occurred = s.occurred := rfl
@[simp] theorem withAgenda_agenda : (s.withAgenda x).agenda = x := rfl
@[simp] theorem withAgenda_draws : (s.withAgenda x).draws = s.draws := rfl
end WithAgenda

section WithDraws
variable (s : State) (x : Nat)
@[simp] theorem withDraws_cfg : (s.withDraws x).cfg = s.cfg := rfl
@[simp] theorem withDraws_core : (s.withDraws x).core = s.core := rfl
@[simp] theorem withDraws_mca : (s.withDraws x).mca = s.mca := rfl
@[simp] theorem withDraws_mct : (s.withDraws x).mct = s.mct := rfl
@[simp] theorem withDraws_parity : (s.withDraws x).parity = s.parity := rfl
@[simp] theorem withDraws_cacheTest : (s.withDraws x).cacheTest = s.cacheTest := rfl
@[simp] theorem withDraws_tlbTest : (s.withDraws x).tlbTest = s.tlbTest := rfl
@[simp] theorem withDraws_tlbSequence : (s.withDraws x).tlbSequence = s.tlbSequence := rfl
@[simp] theorem withDraws_btbTest : (s.withDraws x).btbTest = s.btbTest := rfl
@[simp] theorem withDraws_tr12 : (s.withDraws x).tr12 = s.tr12 := rfl
@[simp] theorem withDraws_perf : (s.withDraws x).perf = s.perf := rfl
@[simp] theorem withDraws_caches : (s.withDraws x).caches = s.caches := rfl
@[simp] theorem withDraws_tlbs : (s.withDraws x).tlbs = s.tlbs := rfl
@[simp] theorem withDraws_btb : (s.withDraws x).btb = s.btb := rfl
@[simp] theorem withDraws_mem : (s.withDraws x).mem = s.mem := rfl
@[simp] theorem withDraws_code : (s.withDraws x).code = s.code := rfl
@[simp] theorem withDraws_run : (s.withDraws x).run = s.run := rfl
@[simp] theorem withDraws_pins : (s.withDraws x).pins = s.pins := rfl
@[simp] theorem withDraws_trace : (s.withDraws x).trace = s.trace := rfl
@[simp] theorem withDraws_occurred : (s.withDraws x).occurred = s.occurred := rfl
@[simp] theorem withDraws_agenda : (s.withDraws x).agenda = s.agenda := rfl
@[simp] theorem withDraws_draws : (s.withDraws x).draws = x := rfl
end WithDraws

end Sys2Proof.Machine
end

