-- ==== Sys2Proof/Laws/Ops.lean ====
section
/-!
SUPPORT. What each shared operation can do, said once; callers cite these and never unfold the operation.
-/

namespace Sys2Proof.Machine

/-! ### Fields after the composed updates -/

section Advance
variable (s : State) (n : Nat)
@[simp] theorem advance_cfg : (s.advance n).cfg = s.cfg := rfl
@[simp] theorem advance_core : (s.advance n).core = { s.core with eip := eipAfter s.core.eip n } := rfl
@[simp] theorem advance_mca : (s.advance n).mca = s.mca := rfl
@[simp] theorem advance_mct : (s.advance n).mct = s.mct := rfl
@[simp] theorem advance_parity : (s.advance n).parity = s.parity := rfl
@[simp] theorem advance_cacheTest : (s.advance n).cacheTest = s.cacheTest := rfl
@[simp] theorem advance_tlbTest : (s.advance n).tlbTest = s.tlbTest := rfl
@[simp] theorem advance_tlbSequence : (s.advance n).tlbSequence = s.tlbSequence := rfl
@[simp] theorem advance_btbTest : (s.advance n).btbTest = s.btbTest := rfl
@[simp] theorem advance_tr12 : (s.advance n).tr12 = s.tr12 := rfl
@[simp] theorem advance_perf : (s.advance n).perf = s.perf := rfl
@[simp] theorem advance_caches : (s.advance n).caches = s.caches := rfl
@[simp] theorem advance_tlbs : (s.advance n).tlbs = s.tlbs := rfl
@[simp] theorem advance_btb : (s.advance n).btb = s.btb := rfl
@[simp] theorem advance_mem : (s.advance n).mem = s.mem := rfl
@[simp] theorem advance_code : (s.advance n).code = s.code := rfl
@[simp] theorem advance_run : (s.advance n).run = s.run := rfl
@[simp] theorem advance_pins : (s.advance n).pins = s.pins := rfl
@[simp] theorem advance_trace : (s.advance n).trace = s.trace := rfl
@[simp] theorem advance_occurred : (s.advance n).occurred = s.occurred := rfl
@[simp] theorem advance_agenda : (s.advance n).agenda = s.agenda := rfl
@[simp] theorem advance_draws : (s.advance n).draws = s.draws := rfl
end Advance

section Result
variable (s : State) (v : Quad)
@[simp] theorem result_cfg : (s.result v).cfg = s.cfg := rfl
@[simp] theorem result_core : (s.result v).core = { s.core with edx := highHalf v, eax := lowHalf v, eip := eipAfter s.core.eip 2 } := rfl
@[simp] theorem result_mca : (s.result v).mca = s.mca := rfl
@[simp] theorem result_mct : (s.result v).mct = s.mct := rfl
@[simp] theorem result_parity : (s.result v).parity = s.parity := rfl
@[simp] theorem result_cacheTest : (s.result v).cacheTest = s.cacheTest := rfl
@[simp] theorem result_tlbTest : (s.result v).tlbTest = s.tlbTest := rfl
@[simp] theorem result_tlbSequence : (s.result v).tlbSequence = s.tlbSequence := rfl
@[simp] theorem result_btbTest : (s.result v).btbTest = s.btbTest := rfl
@[simp] theorem result_tr12 : (s.result v).tr12 = s.tr12 := rfl
@[simp] theorem result_perf : (s.result v).perf = s.perf := rfl
@[simp] theorem result_caches : (s.result v).caches = s.caches := rfl
@[simp] theorem result_tlbs : (s.result v).tlbs = s.tlbs := rfl
@[simp] theorem result_btb : (s.result v).btb = s.btb := rfl
@[simp] theorem result_mem : (s.result v).mem = s.mem := rfl
@[simp] theorem result_code : (s.result v).code = s.code := rfl
@[simp] theorem result_run : (s.result v).run = s.run := rfl
@[simp] theorem result_pins : (s.result v).pins = s.pins := rfl
@[simp] theorem result_trace : (s.result v).trace = s.trace := rfl
@[simp] theorem result_occurred : (s.result v).occurred = s.occurred := rfl
@[simp] theorem result_agenda : (s.result v).agenda = s.agenda := rfl
@[simp] theorem result_draws : (s.result v).draws = s.draws := rfl
end Result

section UseDraws
variable (s : State) (n : Nat)
@[simp] theorem useDraws_cfg : (s.useDraws n).cfg = s.cfg := rfl
@[simp] theorem useDraws_core : (s.useDraws n).core = s.core := rfl
@[simp] theorem useDraws_mca : (s.useDraws n).mca = s.mca := rfl
@[simp] theorem useDraws_mct : (s.useDraws n).mct = s.mct := rfl
@[simp] theorem useDraws_parity : (s.useDraws n).parity = s.parity := rfl
@[simp] theorem useDraws_cacheTest : (s.useDraws n).cacheTest = s.cacheTest := rfl
@[simp] theorem useDraws_tlbTest : (s.useDraws n).tlbTest = s.tlbTest := rfl
@[simp] theorem useDraws_tlbSequence : (s.useDraws n).tlbSequence = s.tlbSequence := rfl
@[simp] theorem useDraws_btbTest : (s.useDraws n).btbTest = s.btbTest := rfl
@[simp] theorem useDraws_tr12 : (s.useDraws n).tr12 = s.tr12 := rfl
@[simp] theorem useDraws_perf : (s.useDraws n).perf = s.perf := rfl
@[simp] theorem useDraws_caches : (s.useDraws n).caches = s.caches := rfl
@[simp] theorem useDraws_tlbs : (s.useDraws n).tlbs = s.tlbs := rfl
@[simp] theorem useDraws_btb : (s.useDraws n).btb = s.btb := rfl
@[simp] theorem useDraws_mem : (s.useDraws n).mem = s.mem := rfl
@[simp] theorem useDraws_code : (s.useDraws n).code = s.code := rfl
@[simp] theorem useDraws_run : (s.useDraws n).run = s.run := rfl
@[simp] theorem useDraws_pins : (s.useDraws n).pins = s.pins := rfl
@[simp] theorem useDraws_trace : (s.useDraws n).trace = s.trace := rfl
@[simp] theorem useDraws_occurred : (s.useDraws n).occurred = s.occurred := rfl
@[simp] theorem useDraws_agenda : (s.useDraws n).agenda = s.agenda := rfl
@[simp] theorem useDraws_draws : (s.useDraws n).draws = s.draws + n := rfl
end UseDraws

section PassClocks
variable (s : State) (l : List Occurrence) (n : Nat)
@[simp] theorem passClocks_cfg : (s.passClocks l n).cfg = s.cfg := rfl
@[simp] theorem passClocks_core : (s.passClocks l n).core = s.core := rfl
@[simp] theorem passClocks_mca : (s.passClocks l n).mca = s.mca := rfl
@[simp] theorem passClocks_mct : (s.passClocks l n).mct = s.mct := rfl
@[simp] theorem passClocks_parity : (s.passClocks l n).parity = s.parity := rfl
@[simp] theorem passClocks_cacheTest : (s.passClocks l n).cacheTest = s.cacheTest := rfl
@[simp] theorem passClocks_tlbTest : (s.passClocks l n).tlbTest = s.tlbTest := rfl
@[simp] theorem passClocks_tlbSequence : (s.passClocks l n).tlbSequence = s.tlbSequence := rfl
@[simp] theorem passClocks_btbTest : (s.passClocks l n).btbTest = s.btbTest := rfl
@[simp] theorem passClocks_tr12 : (s.passClocks l n).tr12 = s.tr12 := rfl
@[simp] theorem passClocks_perf : (s.passClocks l n).perf = ticks (clockEnv s) (l.map some ++ List.replicate n none) s.perf := rfl
@[simp] theorem passClocks_caches : (s.passClocks l n).caches = s.caches := rfl
@[simp] theorem passClocks_tlbs : (s.passClocks l n).tlbs = s.tlbs := rfl
@[simp] theorem passClocks_btb : (s.passClocks l n).btb = s.btb := rfl
@[simp] theorem passClocks_mem : (s.passClocks l n).mem = s.mem := rfl
@[simp] theorem passClocks_code : (s.passClocks l n).code = s.code := rfl
@[simp] theorem passClocks_run : (s.passClocks l n).run = s.run := rfl
@[simp] theorem passClocks_pins : (s.passClocks l n).pins = s.pins := rfl
@[simp] theorem passClocks_trace : (s.passClocks l n).trace = s.trace := rfl
@[simp] theorem passClocks_occurred : (s.passClocks l n).occurred = s.occurred := rfl
@[simp] theorem passClocks_agenda : (s.passClocks l n).agenda = s.agenda := rfl
@[simp] theorem passClocks_draws : (s.passClocks l n).draws = s.draws := rfl
end PassClocks

section DrainClocks
variable (s : State) (n : Nat)
@[simp] theorem drainClocks_cfg : (s.drainClocks n).cfg = s.cfg := rfl
@[simp] theorem drainClocks_core : (s.drainClocks n).core = s.core := rfl
@[simp] theorem drainClocks_mca : (s.drainClocks n).mca = s.mca := rfl
@[simp] theorem drainClocks_mct : (s.drainClocks n).mct = s.mct := rfl
@[simp] theorem drainClocks_parity : (s.drainClocks n).parity = s.parity := rfl
@[simp] theorem drainClocks_cacheTest : (s.drainClocks n).cacheTest = s.cacheTest := rfl
@[simp] theorem drainClocks_tlbTest : (s.drainClocks n).tlbTest = s.tlbTest := rfl
@[simp] theorem drainClocks_tlbSequence : (s.drainClocks n).tlbSequence = s.tlbSequence := rfl
@[simp] theorem drainClocks_btbTest : (s.drainClocks n).btbTest = s.btbTest := rfl
@[simp] theorem drainClocks_tr12 : (s.drainClocks n).tr12 = s.tr12 := rfl
@[simp] theorem drainClocks_perf : (s.drainClocks n).perf = (s.passClocks s.occurred n).perf := rfl
@[simp] theorem drainClocks_caches : (s.drainClocks n).caches = s.caches := rfl
@[simp] theorem drainClocks_tlbs : (s.drainClocks n).tlbs = s.tlbs := rfl
@[simp] theorem drainClocks_btb : (s.drainClocks n).btb = s.btb := rfl
@[simp] theorem drainClocks_mem : (s.drainClocks n).mem = s.mem := rfl
@[simp] theorem drainClocks_code : (s.drainClocks n).code = s.code := rfl
@[simp] theorem drainClocks_run : (s.drainClocks n).run = s.run := rfl
@[simp] theorem drainClocks_pins : (s.drainClocks n).pins = s.pins := rfl
@[simp] theorem drainClocks_trace : (s.drainClocks n).trace = s.trace := rfl
@[simp] theorem drainClocks_occurred : (s.drainClocks n).occurred = [] := rfl
@[simp] theorem drainClocks_agenda : (s.drainClocks n).agenda = s.agenda := rfl
@[simp] theorem drainClocks_draws : (s.drainClocks n).draws = s.draws := rfl
end DrainClocks

section LatchTr5
variable (s : State) (f : Tr5)
@[simp] theorem latchTr5_cfg : (s.latchTr5 f).cfg = s.cfg := rfl
@[simp] theorem latchTr5_core : (s.latchTr5 f).core = s.core := rfl
@[simp] theorem latchTr5_mca : (s.latchTr5 f).mca = s.mca := rfl
@[simp] theorem latchTr5_mct : (s.latchTr5 f).mct = s.mct := rfl
@[simp] theorem latchTr5_parity : (s.latchTr5 f).parity = s.parity := rfl
@[simp] theorem latchTr5_cacheTest : (s.latchTr5 f).cacheTest = { s.cacheTest with tr5 := f } := rfl
@[simp] theorem latchTr5_tlbTest : (s.latchTr5 f).tlbTest = s.tlbTest := rfl
@[simp] theorem latchTr5_tlbSequence : (s.latchTr5 f).tlbSequence = s.tlbSequence := rfl
@[simp] theorem latchTr5_btbTest : (s.latchTr5 f).btbTest = s.btbTest := rfl
@[simp] theorem latchTr5_tr12 : (s.latchTr5 f).tr12 = s.tr12 := rfl
@[simp] theorem latchTr5_perf : (s.latchTr5 f).perf = s.perf := rfl
@[simp] theorem latchTr5_caches : (s.latchTr5 f).caches = s.caches := rfl
@[simp] theorem latchTr5_tlbs : (s.latchTr5 f).tlbs = s.tlbs := rfl
@[simp] theorem latchTr5_btb : (s.latchTr5 f).btb = s.btb := rfl
@[simp] theorem latchTr5_mem : (s.latchTr5 f).mem = s.mem := rfl
@[simp] theorem latchTr5_code : (s.latchTr5 f).code = s.code := rfl
@[simp] theorem latchTr5_run : (s.latchTr5 f).run = s.run := rfl
@[simp] theorem latchTr5_pins : (s.latchTr5 f).pins = s.pins := rfl
@[simp] theorem latchTr5_trace : (s.latchTr5 f).trace = s.trace := rfl
@[simp] theorem latchTr5_occurred : (s.latchTr5 f).occurred = s.occurred := rfl
@[simp] theorem latchTr5_agenda : (s.latchTr5 f).agenda = s.agenda := rfl
@[simp] theorem latchTr5_draws : (s.latchTr5 f).draws = s.draws := rfl
end LatchTr5

section LatchTr11
variable (s : State) (f : Tr11)
@[simp] theorem latchTr11_cfg : (s.latchTr11 f).cfg = s.cfg := rfl
@[simp] theorem latchTr11_core : (s.latchTr11 f).core = s.core := rfl
@[simp] theorem latchTr11_mca : (s.latchTr11 f).mca = s.mca := rfl
@[simp] theorem latchTr11_mct : (s.latchTr11 f).mct = s.mct := rfl
@[simp] theorem latchTr11_parity : (s.latchTr11 f).parity = s.parity := rfl
@[simp] theorem latchTr11_cacheTest : (s.latchTr11 f).cacheTest = s.cacheTest := rfl
@[simp] theorem latchTr11_tlbTest : (s.latchTr11 f).tlbTest = s.tlbTest := rfl
@[simp] theorem latchTr11_tlbSequence : (s.latchTr11 f).tlbSequence = s.tlbSequence := rfl
@[simp] theorem latchTr11_btbTest : (s.latchTr11 f).btbTest = { s.btbTest with tr11 := lowHalf (packTr11 s.cfg.variant f) } := rfl
@[simp] theorem latchTr11_tr12 : (s.latchTr11 f).tr12 = s.tr12 := rfl
@[simp] theorem latchTr11_perf : (s.latchTr11 f).perf = s.perf := rfl
@[simp] theorem latchTr11_caches : (s.latchTr11 f).caches = s.caches := rfl
@[simp] theorem latchTr11_tlbs : (s.latchTr11 f).tlbs = s.tlbs := rfl
@[simp] theorem latchTr11_btb : (s.latchTr11 f).btb = s.btb := rfl
@[simp] theorem latchTr11_mem : (s.latchTr11 f).mem = s.mem := rfl
@[simp] theorem latchTr11_code : (s.latchTr11 f).code = s.code := rfl
@[simp] theorem latchTr11_run : (s.latchTr11 f).run = s.run := rfl
@[simp] theorem latchTr11_pins : (s.latchTr11 f).pins = s.pins := rfl
@[simp] theorem latchTr11_trace : (s.latchTr11 f).trace = s.trace := rfl
@[simp] theorem latchTr11_occurred : (s.latchTr11 f).occurred = s.occurred := rfl
@[simp] theorem latchTr11_agenda : (s.latchTr11 f).agenda = s.agenda := rfl
@[simp] theorem latchTr11_draws : (s.latchTr11 f).draws = s.draws := rfl
end LatchTr11

section PutBtbEntry
variable (s : State) (set : BitVec 6) (way bank : BitVec 2) (e : BtbEntry)
@[simp] theorem putBtbEntry_cfg : (s.putBtbEntry set way bank e).cfg = s.cfg := rfl
@[simp] theorem putBtbEntry_core : (s.putBtbEntry set way bank e).core = s.core := rfl
@[simp] theorem putBtbEntry_mca : (s.putBtbEntry set way bank e).mca = s.mca := rfl
@[simp] theorem putBtbEntry_mct : (s.putBtbEntry set way bank e).mct = s.mct := rfl
@[simp] theorem putBtbEntry_parity : (s.putBtbEntry set way bank e).parity = s.parity := rfl
@[simp] theorem putBtbEntry_cacheTest : (s.putBtbEntry set way bank e).cacheTest = s.cacheTest := rfl
@[simp] theorem putBtbEntry_tlbTest : (s.putBtbEntry set way bank e).tlbTest = s.tlbTest := rfl
@[simp] theorem putBtbEntry_tlbSequence : (s.putBtbEntry set way bank e).tlbSequence = s.tlbSequence := rfl
@[simp] theorem putBtbEntry_btbTest : (s.putBtbEntry set way bank e).btbTest = s.btbTest := rfl
@[simp] theorem putBtbEntry_tr12 : (s.putBtbEntry set way bank e).tr12 = s.tr12 := rfl
@[simp] theorem putBtbEntry_perf : (s.putBtbEntry set way bank e).perf = s.perf := rfl
@[simp] theorem putBtbEntry_caches : (s.putBtbEntry set way bank e).caches = s.caches := rfl
@[simp] theorem putBtbEntry_tlbs : (s.putBtbEntry set way bank e).tlbs = s.tlbs := rfl
@[simp] theorem putBtbEntry_btb : (s.putBtbEntry set way bank e).btb = Sparse.put BtbEntry.empty s.btb (btbKey s.cfg.variant set way bank) e := rfl
@[simp] theorem putBtbEntry_mem : (s.putBtbEntry set way bank e).mem = s.mem := rfl
@[simp] theorem putBtbEntry_code : (s.putBtbEntry set way bank e).code = s.code := rfl
@[simp] theorem putBtbEntry_run : (s.putBtbEntry set way bank e).run = s.run := rfl
@[simp] theorem putBtbEntry_pins : (s.putBtbEntry set way bank e).pins = s.pins := rfl
@[simp] theorem putBtbEntry_trace : (s.putBtbEntry set way bank e).trace = s.trace := rfl
@[simp] theorem putBtbEntry_occurred : (s.putBtbEntry set way bank e).occurred = s.occurred := rfl
@[simp] theorem putBtbEntry_agenda : (s.putBtbEntry set way bank e).agenda = s.agenda := rfl
@[simp] theorem putBtbEntry_draws : (s.putBtbEntry set way bank e).draws = s.draws := rfl
end PutBtbEntry

section Writeback
variable (l : DataLine) (set : BitVec 7) (s : State)
@[simp] theorem writeback_cfg : (Sys2Proof.Machine.writeback l set s).cfg = s.cfg := rfl
@[simp] theorem writeback_core : (Sys2Proof.Machine.writeback l set s).core = s.core := rfl
@[simp] theorem writeback_mca : (Sys2Proof.Machine.writeback l set s).mca = s.mca := rfl
@[simp] theorem writeback_mct : (Sys2Proof.Machine.writeback l set s).mct = s.mct := rfl
@[simp] theorem writeback_parity : (Sys2Proof.Machine.writeback l set s).parity = s.parity := rfl
@[simp] theorem writeback_cacheTest : (Sys2Proof.Machine.writeback l set s).cacheTest = s.cacheTest := rfl
@[simp] theorem writeback_tlbTest : (Sys2Proof.Machine.writeback l set s).tlbTest = s.tlbTest := rfl
@[simp] theorem writeback_tlbSequence : (Sys2Proof.Machine.writeback l set s).tlbSequence = s.tlbSequence := rfl
@[simp] theorem writeback_btbTest : (Sys2Proof.Machine.writeback l set s).btbTest = s.btbTest := rfl
@[simp] theorem writeback_tr12 : (Sys2Proof.Machine.writeback l set s).tr12 = s.tr12 := rfl
@[simp] theorem writeback_perf : (Sys2Proof.Machine.writeback l set s).perf = s.perf := rfl
@[simp] theorem writeback_caches : (Sys2Proof.Machine.writeback l set s).caches = s.caches := rfl
@[simp] theorem writeback_tlbs : (Sys2Proof.Machine.writeback l set s).tlbs = s.tlbs := rfl
@[simp] theorem writeback_btb : (Sys2Proof.Machine.writeback l set s).btb = s.btb := rfl
@[simp] theorem writeback_mem : (Sys2Proof.Machine.writeback l set s).mem = writeLine s.mem (lineAddress s.cfg l.tag set) l.data := rfl
@[simp] theorem writeback_code : (Sys2Proof.Machine.writeback l set s).code = s.code := rfl
@[simp] theorem writeback_run : (Sys2Proof.Machine.writeback l set s).run = s.run := rfl
@[simp] theorem writeback_pins : (Sys2Proof.Machine.writeback l set s).pins = s.pins := rfl
@[simp] theorem writeback_trace : (Sys2Proof.Machine.writeback l set s).trace = .memWrite (lineAddress s.cfg l.tag set) l.data :: s.trace := rfl
@[simp] theorem writeback_occurred : (Sys2Proof.Machine.writeback l set s).occurred = s.occurred ++ [.writeback] := rfl
@[simp] theorem writeback_agenda : (Sys2Proof.Machine.writeback l set s).agenda = s.agenda := rfl
@[simp] theorem writeback_draws : (Sys2Proof.Machine.writeback l set s).draws = s.draws := rfl
end Writeback

section ParityError
variable (s : State)
@[simp] theorem parityError_cfg : (Sys2Proof.Machine.parityError s).cfg = s.cfg := by
  unfold Sys2Proof.Machine.parityError; split <;> rfl
@[simp] theorem parityError_core : (Sys2Proof.Machine.parityError s).core = s.core := by
  unfold Sys2Proof.Machine.parityError; split <;> rfl
@[simp] theorem parityError_mca : (Sys2Proof.Machine.parityError s).mca = s.mca := by
  unfold Sys2Proof.Machine.parityError; split <;> rfl
@[simp] theorem parityError_mct : (Sys2Proof.Machine.parityError s).mct = s.mct := by
  unfold Sys2Proof.Machine.parityError; split <;> rfl
@[simp] theorem parityError_cacheTest : (Sys2Proof.Machine.parityError s).cacheTest = s.cacheTest := by
  unfold Sys2Proof.Machine.parityError; split <;> rfl
@[simp] theorem parityError_tlbTest : (Sys2Proof.Machine.parityError s).tlbTest = s.tlbTest := by
  unfold Sys2Proof.Machine.parityError; split <;> rfl
@[simp] theorem parityError_tlbSequence : (Sys2Proof.Machine.parityError s).tlbSequence = s.tlbSequence := by
  unfold Sys2Proof.Machine.parityError; split <;> rfl
@[simp] theorem parityError_btbTest : (Sys2Proof.Machine.parityError s).btbTest = s.btbTest := by
  unfold Sys2Proof.Machine.parityError; split <;> rfl
@[simp] theorem parityError_tr12 : (Sys2Proof.Machine.parityError s).tr12 = s.tr12 := by
  unfold Sys2Proof.Machine.parityError; split <;> rfl
@[simp] theorem parityError_perf : (Sys2Proof.Machine.parityError s).perf = s.perf := by
  unfold Sys2Proof.Machine.parityError; split <;> rfl
@[simp] theorem parityError_caches : (Sys2Proof.Machine.parityError s).caches = s.caches := by
  unfold Sys2Proof.Machine.parityError; split <;> rfl
@[simp] theorem parityError_tlbs : (Sys2Proof.Machine.parityError s).tlbs = s.tlbs := by
  unfold Sys2Proof.Machine.parityError; split <;> rfl
@[simp] theorem parityError_btb : (Sys2Proof.Machine.parityError s).btb = s.btb := by
  unfold Sys2Proof.Machine.parityError; split <;> rfl
@[simp] theorem parityError_mem : (Sys2Proof.Machine.parityError s).mem = s.mem := by
  unfold Sys2Proof.Machine.parityError; split <;> rfl
@[simp] theorem parityError_code : (Sys2Proof.Machine.parityError s).code = s.code := by
  unfold Sys2Proof.Machine.parityError; split <;> rfl
@[simp] theorem parityError_pins : (Sys2Proof.Machine.parityError s).pins = s.pins := by
  unfold Sys2Proof.Machine.parityError; split <;> rfl
@[simp] theorem parityError_occurred : (Sys2Proof.Machine.parityError s).occurred = s.occurred := by
  unfold Sys2Proof.Machine.parityError; split <;> rfl
@[simp] theorem parityError_agenda : (Sys2Proof.Machine.parityError s).agenda = s.agenda := by
  unfold Sys2Proof.Machine.parityError; split <;> rfl
@[simp] theorem parityError_draws : (Sys2Proof.Machine.parityError s).draws = s.draws := by
  unfold Sys2Proof.Machine.parityError; split <;> rfl
end ParityError

@[simp] theorem parityError_parity (s : State) : (parityError s).parity = { s.parity with pes := true } := by
  unfold parityError; split <;> rfl

@[simp] theorem parityError_trace (s : State) : (parityError s).trace = .ierr :: s.trace := by
  unfold parityError; split <;> rfl

theorem parityError_run (s : State) : (parityError s).run = if s.parity.ns then s.run else .shutdown := by
  unfold parityError; split <;> rfl

/-- PES is not one of the bits NS is read from. -/
@[simp] theorem parity_ns_pes (p : Parity) (b : Bool) : Parity.ns { p with pes := b } = p.ns := rfl

/-! ### Outcomes -/

/-- A privileged instruction goes on at CPL 0 only (rule R162). -/
theorem privileged_next {s t : State} {k : Result} : privileged s k = .next t ↔ s.core.cpl = 0 ∧ k = .next t := by
  unfold privileged raiseGp raiseException
  split <;> simp_all

@[simp] theorem privileged_zero {s : State} (h : s.core.cpl = 0) (k : Result) : privileged s k = k := if_pos h

theorem privileged_user {s : State} (h : s.core.cpl ≠ 0) (k : Result) : FaultsGp s (privileged s k) := if_neg h

/-- An access to a reserved index never completes (rules R163, R165). -/
theorem reservedAccess_next {s t : State} {n : Word} {w : Bool} : reservedAccess n w s ≠ .next t := by
  unfold reservedAccess raiseGp raiseException
  split <;> simp

theorem noReservedOnes_next {m : Msr} {v : Quad} {s t : State} {k : Result} :
    noReservedOnes m v s k = .next t ↔ hasReservedOne s.cfg m v = false ∧ k = .next t := by
  unfold noReservedOnes
  split <;> simp_all

theorem inTestProcedure_next {m : Msr} {pre : Bool} {t : State} {k : Result} :
    inTestProcedure m pre k = .next t ↔ pre = true ∧ k = .next t := by
  unfold inTestProcedure
  split <;> simp_all

theorem hitBitSet_next {s t : State} {k : Result} :
    hitBitSet s k = .next t ↔ s.tlbTest.tr7.h = true ∧ k = .next t := by
  unfold hitBitSet
  split <;> simp_all

/-- A masked read completes at CPL 0 and writes `EDX:EAX` only. -/
theorem readMsrMasked_next {mask v : State → Quad} {s t : State} :
    readMsrMasked mask v s = .next t ↔
      s.core.cpl = 0 ∧ (s.result (withFreeBits (mask s) (v s) (s.free 0))).useDraws 1 = t := by
  simp [readMsrMasked, privileged_next]

/-- A write completes at CPL 0, with no one in a reserved bit, inside its test procedure (rules R24, R164). -/
theorem writeMsr_next {m : Msr} {pre : State → Bool} {effect : Quad → State → State} {s t : State} :
    writeMsr m pre effect s = .next t ↔
      s.core.cpl = 0 ∧ hasReservedOne s.cfg m s.core.edxEax = false ∧ pre s = true ∧
        (effect s.core.edxEax s).advance 2 = t := by
  simp [writeMsr, privileged_next, noReservedOnes_next, inTestProcedure_next]

/-- A TR5 command completes at CPL 0 inside a test procedure, its entry one of the variant (rules R36, R182). -/
theorem tr5Access_next {f : Tr5} {command : State → State} {s t : State} :
    tr5Access f command s = .next t ↔
      s.core.cpl = 0 ∧ entryFits s.cfg.variant f.entry = true ∧ cacheTestPre s = true ∧
        command (s.latchTr5 f) = t := by
  unfold tr5Access
  rw [privileged_next]
  split <;> simp_all [inTestProcedure_next]

/-- A TR6 command runs at CPL 0 inside a test procedure, on the state with TR6 written (rules R222, R228). -/
theorem tr6Access_next {f : Tr6} {command : State → Result} {s t : State} :
    tr6Access f command s = .next t ↔
      s.core.cpl = 0 ∧ s.tlbSequence.broken = false ∧
        command (s.withTlbTest { s.tlbTest with tr6 := f }) = .next t := by
  simp [tr6Access, privileged_next, inTestProcedure_next, tlbTestPre]

/-- A TR11 command runs at CPL 0 with NBP = 1 and operands the variant has (rules R43, R252, R263). -/
theorem tr11Access_next {f : Tr11} {command : State → Result} {s t : State} :
    tr11Access f command s = .next t ↔
      s.core.cpl = 0 ∧ tr11Operands f s (.next s) = .next s ∧ s.nbp = true ∧ command (s.latchTr11 f) = .next t := by
  unfold tr11Access tr11Operands
  rw [privileged_next]
  split <;> split <;> simp_all [inTestProcedure_next, btbTestPre]

/-- A parity check goes on with the machine as it is, or as a reported parity error leaves it, or stops there
(rule R287). -/
theorem checkParity_cases (bad : Bool) (s : State) (k : State → State) :
    (bad = false ∧ checkParity bad s k = k s) ∨
    (bad = true ∧ s.parity.ns = true ∧ checkParity bad s k = k (parityError s)) ∨
    (bad = true ∧ s.parity.ns = false ∧ checkParity bad s k = parityError s) := by
  unfold checkParity
  cases bad <;> cases h : s.parity.ns <;> simp

/-- A data cache line is given up as it is, or after a reported parity error, or the error stops all (rules R284, R287). -/
theorem giveUpDataLine_cases (key : Nat) (set : BitVec 7) (rest : State → State) (s : State) :
    giveUpDataLine key set rest s = rest (invalidateDataLine key set s) ∨
    (s.parity.ns = true ∧ giveUpDataLine key set rest s = rest (invalidateDataLine key set (parityError s))) ∨
    (s.parity.ns = false ∧ giveUpDataLine key set rest s = parityError s) := by
  rcases checkParity_cases (giveUpBad (s.caches.dataLine key)) s (fun t => rest (invalidateDataLine key set t)) with
    ⟨-, h⟩ | ⟨-, n, h⟩ | ⟨-, n, h⟩
  · exact .inl h
  · exact .inr (.inl ⟨n, h⟩)
  · exact .inr (.inr ⟨n, h⟩)

/-- A line has nothing bad to read if its parity is good, or if it is invalid. -/
theorem giveUpBad_good {l : DataLine} (h : l.state = .invalid ∨ writebackBad l = false) : giveUpBad l = false := by
  unfold giveUpBad writebackBad at *
  split <;> simp_all

/-- A line of good parity, or an invalid one, is given up without a report. -/
theorem giveUpDataLine_good {key : Nat} {s : State} (set : BitVec 7) (rest : State → State)
    (h : (s.caches.dataLine key).state = .invalid ∨ writebackBad (s.caches.dataLine key) = false) :
    giveUpDataLine key set rest s = rest (invalidateDataLine key set s) := by
  simp [giveUpDataLine, checkParity, giveUpBad_good h]

/-- A line is given up to a state that differs in memory, the caches, the trace and what occurred. -/
theorem invalidateDataLine_state (key : Nat) (set : BitVec 7) (s : State) :
    ∃ m tr oc, invalidateDataLine key set s =
      (((s.withMem m).withTrace tr).withOccurred oc).withCaches
        (s.caches.putData key { s.caches.dataLine key with state := .invalid }) := by
  unfold invalidateDataLine
  dsimp only
  split
  · exact ⟨_, _, _, rfl⟩
  · exact ⟨s.mem, s.trace, s.occurred, rfl⟩

/-! ### Frames -/

theorem KeptBut.refl (parts : List Part) (s : State) : KeptBut parts s s :=
  ⟨rfl, fun p _ => by cases p <;> simp [Part.kept]⟩

theorem KeptBut.trans {parts : List Part} {s t u : State} (h : KeptBut parts s t) (k : KeptBut parts t u) :
    KeptBut parts s u := by
  refine ⟨k.1.trans h.1, fun p hp => ?_⟩
  have a := h.2 p hp
  have b := k.2 p hp
  cases p
  case machineCheck => exact ⟨b.1.trans a.1, b.2.trans a.2⟩
  case memory => exact fun x => (b x).trans (a x)
  case code => exact fun x => (b x).trans (a x)
  all_goals exact Eq.trans b a

theorem KeptBut.mono {parts more : List Part} {s t : State} (h : KeptBut parts s t) (hp : parts ⊆ more) :
    KeptBut more s t :=
  ⟨h.1, fun p hm => h.2 p fun hin => hm (hp hin)⟩

/-- A reported parity error changes the parity state, the run and the trace (rule R287). -/
theorem parityError_kept (s : State) : KeptBut [.parity, .run, .trace] s (parityError s) :=
  ⟨by simp, fun p hp => by cases p <;> simp_all [Part.kept]⟩

theorem invalidateDataLine_kept (key : Nat) (set : BitVec 7) (s : State) :
    KeptBut [.memory, .caches, .trace, .occurred] s (invalidateDataLine key set s) := by
  obtain ⟨m, tr, oc, e⟩ := invalidateDataLine_state key set s
  rw [e]
  exact ⟨rfl, fun p hp => by cases p <;> simp_all [Part.kept]⟩

/-- What an access by normal operation can change besides the fill buffer and the free values. -/
abbrev accessParts : List Part := [.parity, .run, .memory, .caches, .trace, .occurred]

/-- Data cache lines given up change only these parts (rules R110, R284, R287). -/
theorem giveUpDataLines_kept (set : BitVec 7) (keys : List Nat) (s : State) :
    KeptBut accessParts s (giveUpDataLines set id keys s) := by
  induction keys generalizing s with
  | nil => exact KeptBut.refl _ s
  | cons k keys ih =>
    have error := (parityError_kept s).mono (more := accessParts) (by decide)
    have line (t : State) := (invalidateDataLine_kept k set t).mono (more := accessParts) (by decide)
    unfold giveUpDataLines
    rcases giveUpDataLine_cases k set (giveUpDataLines set id keys) s with h | ⟨-, h⟩ | ⟨-, h⟩ <;> rw [h]
    · exact (line s).trans (ih _)
    · exact error.trans ((line _).trans (ih _))
    · exact error

/-- A code access is refused on two hits, and else changes only these parts and the count of free values (rules R110,
R189, R284). -/
theorem codeFetchMove_cases (a : Word) (s : State) :
    codeFetchMove a s = .refused .cacheDoubleHit ∨
    ∃ t, codeFetchMove a s = .next t ∧ KeptBut (.draws :: accessParts) s t := by
  have used (t : State) (h : KeptBut accessParts s t) : KeptBut (.draws :: accessParts) s (t.useDraws 1) :=
    (h.mono (by decide)).trans ⟨rfl, fun p hp => by cases p <;> simp_all [Part.kept, State.useDraws]⟩
  unfold codeFetchMove
  split
  · exact .inr ⟨_, rfl, used _ (giveUpDataLines_kept _ _ s)⟩
  · rename_i k _
    refine .inr ⟨_, rfl, used _ ?_⟩
    rcases checkParity_cases (codeReadBad (s.caches.codeLine k) (addressPortion a) (s.freeBool 0)) s id with
      ⟨-, h⟩ | ⟨-, -, h⟩ | ⟨-, -, h⟩ <;> rw [h]
    · exact KeptBut.refl _ s
    all_goals exact (parityError_kept s).mono (by decide)
  · exact .inl rfl

/-- A load of a control register completes at CPL 0 (rule R478). -/
theorem loadControl_next {effect : State → State} {s t : State} :
    loadControl effect s = .next t ↔ s.core.cpl = 0 ∧ executed effect s = t := by
  simp [loadControl, privileged_next]

/-! ### Turns (rule R14) -/

/-- The core's turn at the head of the agenda, or no turn left (log 17). -/
theorem nextTurn_core {s : State} (h : CoreTurn s) : s.nextTurn = .core := by
  obtain h | h := h <;> cases ha : s.agenda <;> simp_all [State.nextTurn]

/-- Another agent's turn at the head of the agenda. -/
theorem nextTurn_agent {s : State} {a : Agent} {rest : List Turn} (h : s.agenda = .agent a :: rest) :
    s.nextTurn = .agent a ∧ s.turnTaken = s.withAgenda rest := by
  simp [State.nextTurn, State.turnTaken, h]

/-- A step of RESET, also in shutdown (rule R470). -/
theorem step_reset {s : State} (h : s.nextTurn = .agent .reset) :
    step s = drained 0 (agentMove .reset s.turnTaken) := by
  simp [step, h, stepTurn, takeTurn]

/-- Any other step: the microcode parity check and the turn, but a fault in shutdown (rules R286, R470). -/
theorem step_turn {s : State} (h : s.nextTurn ≠ .agent .reset) :
    step s = if s.run = .shutdown then .fault .shutdown
      else afterMicrocodeCheck (takeTurn s.nextTurn) s.turnTaken := by
  unfold step stepTurn
  split
  · contradiction
  · rfl

/-- All the microcode parity check can do (rules R286, R287): nothing without a pending error or, but for the free value
used up, without a microcode read; and else the report, with NS = 0 the shutdown. -/
theorem afterMicrocodeCheck_cases (k : State → Result) (s : State) (h : s.run ≠ .shutdown) :
    (s.parity.mcBadPending = false ∧ afterMicrocodeCheck k s = k s) ∨
    (s.parity.mcBadPending = true ∧ Config.microcodeRead s.draws = false ∧
      afterMicrocodeCheck k s = k (s.useDraws 1)) ∨
    (s.parity.mcBadPending = true ∧ Config.microcodeRead s.draws = true ∧
      ∃ t, t = (parityError (s.withParity { s.parity with mcBadPending := false })).useDraws 1 ∧
        afterMicrocodeCheck k s = if s.parity.ns then k t else .next (idleClocks t)) := by
  unfold afterMicrocodeCheck microcodeCheck
  cases hp : s.parity.mcBadPending
  · simp [h]
  · cases hr : Config.microcodeRead s.draws
    · simp [h]
    · refine .inr (.inr ⟨rfl, rfl, _, rfl, ?_⟩)
      have ns : (parityError (s.withParity { s.parity with mcBadPending := false })).run =
          if s.parity.ns then s.run else .shutdown := by
        unfold parityError
        cases hn : s.parity.ns <;> simp_all [Parity.ns, Parity.bit]
      cases hn : s.parity.ns <;> simp_all

/-! ### Reserved bits -/

/-- The check of rule R24 b and its statement bit by bit. -/
theorem noReservedOne_iff {c : Config} {m : Msr} {v : Quad} : NoReservedOne c m v ↔ hasReservedOne c m v = false := by
  have key : hasReservedOne c m v = false ↔ v &&& ~~~(msrMask c m) = 0 := by simp [hasReservedOne]
  rw [key]
  constructor
  · intro h
    apply BitVec.eq_of_getLsbD_eq
    intro n hn
    have := h n
    cases hv : v.getLsbD n <;> simp_all
  · intro h n hv
    have hn : n < 64 := by
      by_contra hge
      rw [BitVec.getLsbD_of_ge _ _ (by omega)] at hv
      cases hv
    have := congrArg (·.getLsbD n) h
    simpa [hv, hn] using this

/-! ### The program counter -/

/-- Below 2^32 the instruction pointer moves by the length (rule R21). -/
theorem eipAfter_toNat {eip : Word} {n : Nat} (h : eip.toNat + n < 2 ^ 32) :
    (eipAfter eip n).toNat = eip.toNat + n := by
  unfold eipAfter
  rw [if_pos h, BitVec.toNat_add, BitVec.toNat_ofNat]
  omega

/-! ### 64-bit values -/

@[simp] theorem highHalf_toNat (v : Quad) : (highHalf v).toNat = v.toNat / 2 ^ 32 := by
  have := v.isLt
  simp only [highHalf, BitVec.extractLsb'_toNat, Nat.shiftRight_eq_div_pow]
  omega

@[simp] theorem lowHalf_toNat (v : Quad) : (lowHalf v).toNat = v.toNat % 2 ^ 32 := by
  simp [lowHalf, BitVec.extractLsb'_toNat]

theorem edxEax_toNat (c : Core) : c.edxEax.toNat = c.edx.toNat * 2 ^ 32 + c.eax.toNat := by
  simp only [Core.edxEax, joinHalves, BitVec.toNat_append]
  rw [← Nat.shiftLeft_add_eq_or_of_lt c.eax.isLt, Nat.shiftLeft_eq]

/-! ### Clocks -/

/-- The time stamp counter counts every clock (rule R322). -/
theorem ticks_tsc (env : ClockEnv) (l : List (Option Occurrence)) (p : Perf) :
    (ticks env l p).tsc = p.tsc + BitVec.ofNat 64 l.length := by
  induction l generalizing p with
  | nil => simp [ticks]
  | cons o l ih =>
    have h := ih (tick env o p)
    simp only [ticks, List.foldl_cons, List.length_cons] at h ⊢
    rw [h, show (tick env o p).tsc = p.tsc + 1 from rfl, BitVec.add_assoc]
    congr 1
    rw [Nat.add_comm, BitVec.ofNat_add]
    rfl

/-! ### Arrays -/

@[simp] theorem codeLine_putCode_same (c : Caches) (k : Nat) (l : CodeLine) : (c.putCode k l).codeLine k = l := by
  simp [Caches.putCode, Caches.codeLine]

theorem codeLine_putCode_other (c : Caches) {k j : Nat} (l : CodeLine) (h : j ≠ k) :
    (c.putCode k l).codeLine j = c.codeLine j := Sparse.get_put_other _ _ _ h

@[simp] theorem dataLine_putData_same (c : Caches) (k : Nat) (l : DataLine) : (c.putData k l).dataLine k = l := by
  simp [Caches.putData, Caches.dataLine]

theorem dataLine_putData_other (c : Caches) {k j : Nat} (l : DataLine) (h : j ≠ k) :
    (c.putData k l).dataLine j = c.dataLine j := Sparse.get_put_other _ _ _ h

@[simp] theorem codeLine_putCodeLru (c : Caches) (set : BitVec 7) (x : BitVec 3) (k : Nat) :
    (c.putCodeLru set x).codeLine k = c.codeLine k := rfl

@[simp] theorem dataLine_putDataLru (c : Caches) (set : BitVec 7) (x : BitVec 3) (k : Nat) :
    (c.putDataLru set x).dataLine k = c.dataLine k := rfl

/-- After a flush of the code cache no line is valid (rule R193). -/
theorem flushCode_invalid (c : Caches) (k : Nat) : (c.flushCode.codeLine k).valid = false := by
  refine Sparse.get_of_forall (P := fun l : CodeLine => l.valid = false) rfl (fun p hp => ?_) k
  simp only [Caches.flushCode] at hp
  obtain ⟨q, -, -, h⟩ := Sparse.key_of_mem_mapAll hp
  rw [← h]

/-- After a flush of the data cache every line is in I state (rule R194). -/
theorem flushData_invalid (c : Caches) (k : Nat) : (c.flushData.dataLine k).state = .invalid := by
  refine Sparse.get_of_forall (P := fun l : DataLine => l.state = .invalid) rfl (fun p hp => ?_) k
  simp only [Caches.flushData] at hp
  obtain ⟨q, -, -, h⟩ := Sparse.key_of_mem_mapAll hp
  rw [← h]

/-- After a flush of the BTB no entry is valid (rule R257). -/
theorem flushBtb_invalid (b : Sparse BtbEntry) (k : Nat) : (Sparse.get BtbEntry.empty (flushBtb b) k).valid = false :=
  Sparse.get_of_forall (P := fun e : BtbEntry => e.valid = false) rfl
    (fun _ hp => by obtain ⟨q, -, -, h⟩ := Sparse.key_of_mem_mapAll hp; rw [← h]) k

/-- After a flush of a TLB no entry is valid (rule R230). -/
theorem flushTlb_invalid (t : Sparse TlbEntry) (k : Nat) : (Sparse.get TlbEntry.empty (flushTlb t) k).v = false :=
  Sparse.get_of_forall (P := fun e : TlbEntry => e.v = false) rfl
    (fun _ hp => by obtain ⟨q, -, -, h⟩ := Sparse.key_of_mem_mapAll hp; rw [← h]) k

@[simp] theorem entry_putEntry_same (t : Tlbs) (n : TlbName) (k : Nat) (e : TlbEntry) :
    (t.putEntry n k e).entry n k = e := by
  cases n <;> simp [Tlbs.putEntry, Tlbs.entry, Tlbs.array]

theorem entry_putEntry_other (t : Tlbs) {n m : TlbName} {k j : Nat} (e : TlbEntry) (h : m ≠ n ∨ j ≠ k) :
    (t.putEntry n k e).entry m j = t.entry m j := by
  cases n <;> cases m <;> simp_all [Tlbs.putEntry, Tlbs.entry, Tlbs.array, Sparse.get_put_other]

@[simp] theorem entry_putLru (t : Tlbs) (n m : TlbName) (set : Nat) (x : BitVec 3) (k : Nat) :
    (t.putLru n set x).entry m k = t.entry m k := by
  cases n <;> cases m <;> rfl

/-- The keys of cache lines lie below 512. -/
theorem lineKey_lt (set : BitVec 7) {w : Nat} (h : w < 4) : lineKey set w < 512 := by
  have := set.isLt
  unfold lineKey
  omega

theorem cacheWay_lt (v : Variant) (e : BitVec 2) : cacheWay v e < v.cacheWays := by
  have := e.isLt
  cases v <;> simp [cacheWay, Variant.cacheWays] <;> omega

/-- The keys of TLB entries lie in their arrays (rule R234). -/
theorem tlbKey_lt (v : Variant) (n : TlbName) (la : BitVec 20) (entry : BitVec 6) :
    tlbKey v (tlbOf v n) la entry < (match tlbOf v n with | .code => 32 | .data4K => 64 | .data4M => 8) := by
  have h1 : entry.toNat % 4 < 4 := Nat.mod_lt _ (by decide)
  have h2 := entry.isLt
  cases v <;> cases n <;>
    simp only [tlbOf, tlbKey, tlbSet, tlbSets, tlbEntries] <;> omega

end Sys2Proof.Machine
end

