-- ==== Sys2Proof/Laws/PerInstr.lean ====
section
/-!
SUPPORT. Families of lemmas with one lemma for every constructor of Instr.
-/

namespace Sys2Proof.Laws.EncodedLength

/-- The encoding of an instruction has its length in bytes (rules R131, R134, R174). -/
def Statement (i : Instr) : Prop := ∀ c, (encode c i).bytes.length = instrLength i

theorem wrmsr : Statement .wrmsr := fun _ => rfl
theorem rdtsc : Statement .rdtsc := fun _ => rfl
theorem rdmsr : Statement .rdmsr := fun _ => rfl
theorem rdpmc : Statement .rdpmc := fun _ => rfl
theorem rdpmcOnP : Statement .rdpmcOnP := fun _ => rfl
theorem cpuid : Statement .cpuid := fun _ => rfl
theorem movImm (r : Reg) (imm : Word) : Statement (.movImm r imm) := fun _ => by cases r <;> rfl
theorem orEaxImm (imm : Word) : Statement (.orEaxImm imm) := fun _ => rfl
theorem andEaxImm (imm : Word) : Statement (.andEaxImm imm) := fun _ => rfl
theorem xorSame (r : Reg) : Statement (.xorSame r) := fun _ => by cases r <;> rfl
theorem hlt : Statement .hlt := fun _ => rfl
theorem rdmsrMca : Statement .rdmsrMca := fun _ => rfl
theorem wrmsrMca : Statement .wrmsrMca := fun _ => rfl
theorem rdmsrMct : Statement .rdmsrMct := fun _ => rfl
theorem wrmsrMct : Statement .wrmsrMct := fun _ => rfl
theorem rdmsrTr1 : Statement .rdmsrTr1 := fun _ => rfl
theorem wrmsrTr1 : Statement .wrmsrTr1 := fun _ => rfl
theorem rdmsrTr2 : Statement .rdmsrTr2 := fun _ => rfl
theorem wrmsrTr2 : Statement .wrmsrTr2 := fun _ => rfl
theorem rdmsrTr3 : Statement .rdmsrTr3 := fun _ => rfl
theorem wrmsrTr3 : Statement .wrmsrTr3 := fun _ => rfl
theorem rdmsrTr4 : Statement .rdmsrTr4 := fun _ => rfl
theorem wrmsrTr4 : Statement .wrmsrTr4 := fun _ => rfl
theorem rdmsrTr5 : Statement .rdmsrTr5 := fun _ => rfl
theorem wrmsrTr5 : Statement .wrmsrTr5 := fun _ => rfl
theorem rdmsrTr6 : Statement .rdmsrTr6 := fun _ => rfl
theorem wrmsrTr6 : Statement .wrmsrTr6 := fun _ => rfl
theorem rdmsrTr7 : Statement .rdmsrTr7 := fun _ => rfl
theorem wrmsrTr7 : Statement .wrmsrTr7 := fun _ => rfl
theorem rdmsrTr9 : Statement .rdmsrTr9 := fun _ => rfl
theorem wrmsrTr9 : Statement .wrmsrTr9 := fun _ => rfl
theorem rdmsrTr10 : Statement .rdmsrTr10 := fun _ => rfl
theorem wrmsrTr10 : Statement .wrmsrTr10 := fun _ => rfl
theorem rdmsrTr11 : Statement .rdmsrTr11 := fun _ => rfl
theorem wrmsrTr11 : Statement .wrmsrTr11 := fun _ => rfl
theorem rdmsrTr12 : Statement .rdmsrTr12 := fun _ => rfl
theorem wrmsrTr12 : Statement .wrmsrTr12 := fun _ => rfl
theorem rdmsrTsc : Statement .rdmsrTsc := fun _ => rfl
theorem wrmsrTsc : Statement .wrmsrTsc := fun _ => rfl
theorem rdmsrCesr : Statement .rdmsrCesr := fun _ => rfl
theorem wrmsrCesr : Statement .wrmsrCesr := fun _ => rfl
theorem rdmsrCtr0 : Statement .rdmsrCtr0 := fun _ => rfl
theorem wrmsrCtr0 : Statement .wrmsrCtr0 := fun _ => rfl
theorem rdmsrCtr1 : Statement .rdmsrCtr1 := fun _ => rfl
theorem wrmsrCtr1 : Statement .wrmsrCtr1 := fun _ => rfl
theorem rdmsrReserved03 : Statement .rdmsrReserved03 := fun _ => rfl
theorem wrmsrReserved03 : Statement .wrmsrReserved03 := fun _ => rfl
theorem rdmsrReserved04 : Statement .rdmsrReserved04 := fun _ => rfl
theorem wrmsrReserved04 : Statement .wrmsrReserved04 := fun _ => rfl
theorem rdmsrReserved0A : Statement .rdmsrReserved0A := fun _ => rfl
theorem wrmsrReserved0A : Statement .wrmsrReserved0A := fun _ => rfl
theorem rdmsrReserved0F : Statement .rdmsrReserved0F := fun _ => rfl
theorem wrmsrReserved0F : Statement .wrmsrReserved0F := fun _ => rfl
theorem rdmsrReservedAbove (ecx : Word) : Statement (.rdmsrReservedAbove ecx) := fun _ => rfl
theorem wrmsrReservedAbove (ecx : Word) : Statement (.wrmsrReservedAbove ecx) := fun _ => rfl
theorem rdpmcCtr0 : Statement .rdpmcCtr0 := fun _ => rfl
theorem rdpmcCtr1 : Statement .rdpmcCtr1 := fun _ => rfl
theorem rdpmcOther (ecx : Word) : Statement (.rdpmcOther ecx) := fun _ => rfl
theorem tr5Normal (buffer : BitVec 3) (set : BitVec 7) (entry : BitVec 2) (cd wb : Bool) : Statement (.tr5Normal buffer set entry cd wb) := fun _ => rfl
theorem tr5WriteCode (buffer : BitVec 3) (set : BitVec 7) (entry : BitVec 2) (wb : Bool) : Statement (.tr5WriteCode buffer set entry wb) := fun _ => rfl
theorem tr5WriteData (buffer : BitVec 3) (set : BitVec 7) (entry : BitVec 2) (wb : Bool) : Statement (.tr5WriteData buffer set entry wb) := fun _ => rfl
theorem tr5ReadCode (buffer : BitVec 3) (set : BitVec 7) (entry : BitVec 2) (wb : Bool) : Statement (.tr5ReadCode buffer set entry wb) := fun _ => rfl
theorem tr5ReadData (buffer : BitVec 3) (set : BitVec 7) (entry : BitVec 2) (wb : Bool) : Statement (.tr5ReadData buffer set entry wb) := fun _ => rfl
theorem tr5FlushCode (buffer : BitVec 3) (set : BitVec 7) (entry : BitVec 2) (wb : Bool) : Statement (.tr5FlushCode buffer set entry wb) := fun _ => rfl
theorem tr5FlushDataAll (buffer : BitVec 3) (set : BitVec 7) (entry : BitVec 2) : Statement (.tr5FlushDataAll buffer set entry) := fun _ => rfl
theorem tr5FlushDataLine (buffer : BitVec 3) (set : BitVec 7) (entry : BitVec 2) : Statement (.tr5FlushDataLine buffer set entry) := fun _ => rfl
theorem tr6WriteCode (la : BitVec 20) (v d u w ps : Bool) : Statement (.tr6WriteCode la v d u w ps) := fun _ => rfl
theorem tr6WriteData (la : BitVec 20) (v d u w ps : Bool) : Statement (.tr6WriteData la v d u w ps) := fun _ => rfl
theorem tr6ReadCode (la : BitVec 20) (v d u w ps : Bool) : Statement (.tr6ReadCode la v d u w ps) := fun _ => rfl
theorem tr6ReadData (la : BitVec 20) (v d u w ps : Bool) : Statement (.tr6ReadData la v d u w ps) := fun _ => rfl
theorem tr11Normal (btype : BitVec 2) (set : BitVec 6) (bank way : BitVec 2) : Statement (.tr11Normal btype set bank way) := fun _ => rfl
theorem tr11Write (btype : BitVec 2) (set : BitVec 6) (bank way : BitVec 2) : Statement (.tr11Write btype set bank way) := fun _ => rfl
theorem tr11ReadData (btype : BitVec 2) (set : BitVec 6) (bank way : BitVec 2) : Statement (.tr11ReadData btype set bank way) := fun _ => rfl
theorem tr11Flush (btype : BitVec 2) (set : BitVec 6) (bank way : BitVec 2) : Statement (.tr11Flush btype set bank way) := fun _ => rfl
theorem tr11ReadTag (btype : BitVec 2) (set : BitVec 6) (bank way : BitVec 2) : Statement (.tr11ReadTag btype set bank way) := fun _ => rfl
theorem tr11Reserved4 (btype : BitVec 2) (set : BitVec 6) (bank way : BitVec 2) : Statement (.tr11Reserved4 btype set bank way) := fun _ => rfl
theorem tr11Reserved6 (btype : BitVec 2) (set : BitVec 6) (bank way : BitVec 2) : Statement (.tr11Reserved6 btype set bank way) := fun _ => rfl
theorem tr11Reserved7 (btype : BitVec 2) (set : BitVec 6) (bank way : BitVec 2) : Statement (.tr11Reserved7 btype set bank way) := fun _ => rfl

end Sys2Proof.Laws.EncodedLength
end

