-- ==== Sys2Proof/Tests/Slice0.lean ====
section
/-!
SUPPORT. Tests: the well-formedness smoke test, the decoding of every constructor from words written out by hand from
the encoding tables (`30_encoding.md`, the layouts' suggested defaults), vectors of `95_test_vectors.md` that are one
step, and a witness for the hypotheses of every statement. Expected values come from the spec.
-/

namespace Sys2Proof.Tests

open Sys2Proof Sys2Proof.Machine

/-! ### Helpers -/

/-- The machine after reset on a variant: CPL 0, CR0.CD = CR0.NW = 1. -/
def cpu (v : Variant) : State := State.resetWith (Config.suggested v)

/-- `EDX:EAX` loaded. -/
def load (s : State) (edx eax : Word) : State := s.withCore { s.core with edx := edx, eax := eax }

/-- The machine with TR12.NBP = 1. -/
def btbCpu (v : Variant) : State := (cpu v).withTr12 1

/-- The machine at privilege level 3. -/
def user (s : State) : State := s.withCore { s.core with cpl := 3 }

/-- Something of the next state; none where an instruction stops. -/
def got {α : Type} (f : State → α) : Result → Option α
  | .next s => some (f s)
  | _ => none

/-- Something of the next state of two instructions. -/
def thenGot {α : Type} (i : Instr) (f : State → α) : Result → Option α
  | .next s => got f (exec i s)
  | _ => none

def faultOf : Result → Option Fault
  | .fault f => some f
  | _ => none

def refusalOf : Result → Option Refusal
  | .refused r => some r
  | _ => none

/-- The reset state with instruction bytes at its instruction pointer. -/
def withBytes (v : Variant) (bs : List Byte) : State :=
  (cpu v).withCode (writeBytes [] (cpu v).core.eip.toNat bs)

/-! ### Well-formedness -/

theorem test_suggested_layouts_fit :
    (Config.suggested .p).check = true ∧ (Config.suggested .pmmx).check = true := by decide

/-- A tag bit in TR4[31:28], a tag of another width, a P layout that uses TR4.3, a PMMX layout whose LRU misses TR4.4. -/
theorem test_tr4_layout_refused :
    LayoutTr4.check .pmmx 20 { (Config.suggested .pmmx).tr4 with tag := bitRange 28 9 } = false ∧
    LayoutTr4.check .pmmx 21 (Config.suggested .pmmx).tr4 = false ∧
    LayoutTr4.check .p 20 { (Config.suggested .p).tr4 with lru := [3] } = false ∧
    LayoutTr4.check .pmmx 20 { (Config.suggested .pmmx).tr4 with lru := [2, 3, 5] } = false := by decide

theorem test_tr5_layout_refused :
    LayoutTr5.check .p { (Config.suggested .p).tr5 with entry := [19] } = false ∧
    LayoutTr5.check .pmmx { (Config.suggested .pmmx).tr5 with entry := [12, 20] } = false ∧
    LayoutTr5.check .pmmx { (Config.suggested .pmmx).tr5 with cd := [14] } = false := by decide

theorem test_tr6_layout_refused : LayoutTr6.check { (Config.suggested .p).tr6 with v := [12] } = false ∧
    LayoutTr6.check { (Config.suggested .p).tr6 with op := [1] } = false := by decide

theorem test_tr7_layout_refused :
    LayoutTr7.check .p { (Config.suggested .p).tr7 with lru := [6, 7, 8] } = false ∧
    LayoutTr7.check .pmmx { (Config.suggested .pmmx).tr7 with h := [7] } = false := by decide

theorem test_cesr_layout_refused :
    LayoutCesr.check { (Config.suggested .p).cesr with pc0 := [5] } = false ∧
    LayoutCesr.check { (Config.suggested .p).cesr with cc1 := bitRange 33 31 } = false := by decide

theorem test_ill_formed_instructions_refused :
    [Instr.rdpmc, .rdpmcCtr0, .rdpmcCtr1, .rdpmcOther 2, .rdmsrReserved04, .wrmsrReserved04, .rdmsrReservedAbove 0x13,
      .tr5Normal 0 0 2 false false, .tr5FlushDataLine 0 0 3, .tr11Normal 1 0 0 0, .tr11Write 0 0 1 0,
      .tr11ReadTag 0 0 0 0, .tr11Reserved4 0 0 0 0].all (fun i => i.check (Config.suggested .p) == false) = true ∧
    [Instr.rdpmcOnP, .rdpmcOther 1, .rdmsrTr2, .wrmsrTr2, .wrmsrReservedAbove 0, .tr11Normal 0 16 0 0,
      .tr11Reserved7 0 16 0 0].all (fun i => i.check (Config.suggested .pmmx) == false) = true := by decide

/-! ### Decoding: every constructor from a word written out by hand -/

/-- Every pair of words and instruction agrees. -/
def decodesAll (v : Variant) (l : List (Words × Instr)) : Bool :=
  l.all fun p => decide (decode (Config.suggested v) p.1 = .ok p.2)

theorem test_decode_level1 :
    decodesAll .pmmx
      [({ bytes := [0x0F, 0x30] }, .wrmsr), ({ bytes := [0x0F, 0x31] }, .rdtsc), ({ bytes := [0x0F, 0x32] }, .rdmsr),
       ({ bytes := [0x0F, 0x33] }, .rdpmc), ({ bytes := [0x0F, 0xA2] }, .cpuid),
       ({ bytes := [0xB8, 0x78, 0x56, 0x34, 0x12] }, .movImm .eax 0x12345678),
       ({ bytes := [0xB9, 0x11, 0x00, 0x00, 0x00] }, .movImm .ecx 0x11),
       ({ bytes := [0xBA, 0x00, 0x00, 0x00, 0x80] }, .movImm .edx 0x80000000),
       ({ bytes := [0x0D, 0x00, 0x00, 0xD7, 0x00] }, .orEaxImm 0x00D70000),
       ({ bytes := [0x25, 0xFF, 0xFF, 0x00, 0xFC] }, .andEaxImm 0xFC00FFFF),
       ({ bytes := [0x31, 0xC0] }, .xorSame .eax), ({ bytes := [0x31, 0xC9] }, .xorSame .ecx),
       ({ bytes := [0x31, 0xD2] }, .xorSame .edx), ({ bytes := [0xF4] }, .hlt)] = true ∧
    decodesAll .p [({ bytes := [0x0F, 0x33] }, .rdpmcOnP)] = true := by decide

theorem test_decode_refused_by_name :
    decodeBytes .p [] = .error .truncated ∧ decodeBytes .p [0xB9, 1, 2] = .error .truncated ∧
    decodeBytes .p [0x66, 0x0F, 0x32] = .error (.prefixByte 0x66) ∧ decodeBytes .p [0x90] = .error (.firstByte 0x90) ∧
    decodeBytes .p [0x0F, 0x34] = .error (.secondByte 0x34) ∧ decodeBytes .p [0xBB] = .error (.movRegister 0xBB) ∧
    decodeBytes .p [0x31, 0xC1] = .error (.modRm 0xC1) ∧
    decode (Config.suggested .p) (commandWords 0x07 0x00081121) = .error (.reservedBits .tr5) := by decide

theorem test_decode_rdmsr :
    decodesAll .pmmx
      [(rdmsrWords 0x00, .rdmsrMca), (rdmsrWords 0x01, .rdmsrMct), (rdmsrWords 0x02, .rdmsrTr1),
       (rdmsrWords 0x05, .rdmsrTr3), (rdmsrWords 0x06, .rdmsrTr4), (rdmsrWords 0x07, .rdmsrTr5),
       (rdmsrWords 0x08, .rdmsrTr6), (rdmsrWords 0x09, .rdmsrTr7), (rdmsrWords 0x0B, .rdmsrTr9),
       (rdmsrWords 0x0C, .rdmsrTr10), (rdmsrWords 0x0D, .rdmsrTr11), (rdmsrWords 0x0E, .rdmsrTr12),
       (rdmsrWords 0x10, .rdmsrTsc), (rdmsrWords 0x11, .rdmsrCesr), (rdmsrWords 0x12, .rdmsrCtr0),
       (rdmsrWords 0x13, .rdmsrCtr1), (rdmsrWords 0x03, .rdmsrReserved03), (rdmsrWords 0x04, .rdmsrReserved04),
       (rdmsrWords 0x0A, .rdmsrReserved0A), (rdmsrWords 0x0F, .rdmsrReserved0F),
       (rdmsrWords 0x14, .rdmsrReservedAbove 0x14), (rdmsrWords 0x80000010, .rdmsrReservedAbove 0x80000010)] = true ∧
    decodesAll .p [(rdmsrWords 0x04, .rdmsrTr2)] = true := by decide

theorem test_decode_wrmsr :
    decodesAll .pmmx
      [(wrmsrWords 0x00, .wrmsrMca), (wrmsrWords 0x01, .wrmsrMct), (wrmsrWords 0x02, .wrmsrTr1),
       (wrmsrWords 0x05, .wrmsrTr3), (wrmsrWords 0x06, .wrmsrTr4), (wrmsrWords 0x07, .wrmsrTr5),
       (wrmsrWords 0x08, .wrmsrTr6), (wrmsrWords 0x09, .wrmsrTr7), (wrmsrWords 0x0B, .wrmsrTr9),
       (wrmsrWords 0x0C, .wrmsrTr10), (wrmsrWords 0x0D, .wrmsrTr11), (wrmsrWords 0x0E, .wrmsrTr12),
       (wrmsrWords 0x10, .wrmsrTsc), (wrmsrWords 0x11, .wrmsrCesr), (wrmsrWords 0x12, .wrmsrCtr0),
       (wrmsrWords 0x13, .wrmsrCtr1), (wrmsrWords 0x03, .wrmsrReserved03), (wrmsrWords 0x04, .wrmsrReserved04),
       (wrmsrWords 0x0A, .wrmsrReserved0A), (wrmsrWords 0x0F, .wrmsrReserved0F),
       (wrmsrWords 0xFFFFFFFF, .wrmsrReservedAbove 0xFFFFFFFF)] = true ∧
    decodesAll .p [(wrmsrWords 0x04, .wrmsrTr2)] = true := by decide

theorem test_decode_rdpmc :
    decodesAll .pmmx [(rdpmcWords 0, .rdpmcCtr0), (rdpmcWords 1, .rdpmcCtr1), (rdpmcWords 2, .rdpmcOther 2)] = true := by
  decide

/-- The values are those of vectors V20 to V35, with the suggested layout. -/
theorem test_decode_tr5 :
    decodesAll .pmmx
      [(commandWords 0x07 0x00000014, .tr5Normal 5 0 0 false false),
       (commandWords 0x07 0x00081121, .tr5WriteCode 0 9 3 false),
       (commandWords 0x07 0x00006001, .tr5WriteData 0 0 0 true),
       (commandWords 0x07 0x00001132, .tr5ReadCode 4 9 1 false),
       (commandWords 0x07 0x00002002, .tr5ReadData 0 0 0 false), (commandWords 0x07 0x00004003, .tr5FlushCode 0 0 0 true),
       (commandWords 0x07 0x00002003, .tr5FlushDataAll 0 0 0),
       (commandWords 0x07 0x00006003, .tr5FlushDataLine 0 0 0)] = true ∧
    decodesAll .p [(commandWords 0x07 0x00001121, .tr5WriteCode 0 9 1 false)] = true := by decide

/-- The values are those of vectors V41 to V46, with the suggested layout. -/
theorem test_decode_tr6 :
    decodesAll .p
      [(commandWords 0x08 0x00400800, .tr6WriteCode 0x00400 true false false false false),
       (commandWords 0x08 0x00400001, .tr6ReadCode 0x00400 false false false false false),
       (commandWords 0x08 0x00800D82, .tr6WriteData 0x00800 true true false true true),
       (commandWords 0x08 0x00812203, .tr6ReadData 0x00812 false false true false false)] = true := by decide

/-- The values are those of vectors V52 to V59. -/
theorem test_decode_tr11 :
    decodesAll .pmmx
      [(commandWords 0x0D 0x00000000, .tr11Normal 0 0 0 0), (commandWords 0x0D 0x02000345, .tr11Write 2 3 1 1),
       (commandWords 0x0D 0x00000346, .tr11ReadData 0 3 1 1), (commandWords 0x0D 0x00000003, .tr11Flush 0 0 0 0),
       (commandWords 0x0D 0x00001345, .tr11ReadTag 0 3 1 1), (commandWords 0x0D 0x00001344, .tr11Reserved4 0 3 1 1),
       (commandWords 0x0D 0x00001346, .tr11Reserved6 0 3 1 1),
       (commandWords 0x0D 0x00001347, .tr11Reserved7 0 3 1 1)] = true ∧
    decodesAll .p
      [(commandWords 0x0D 0x000000C5, .tr11Write 0 3 0 1), (commandWords 0x0D 0x000000C6, .tr11ReadData 0 3 0 1)] =
        true := by decide

/-! ### Vectors -/

/-- V18, V19. -/
theorem test_V18_V19 :
    got (fun t => (t.core.ecx, t.core.eip)) (exec (.movImm .ecx 0x11) (cpu .p)) = some (0x11, 0xFFF5) ∧
    got (·.core.eax) (exec (.andEaxImm 0xFC00FFFF) (load (cpu .p) 0 0x00D700D6)) = some 0x000000D6 ∧
    got (·.core.eax) (exec (.orEaxImm 0x00D70000) (load (cpu .p) 0 0x000000D6)) = some 0x00D700D6 ∧
    got (·.core.edx) (exec (.xorSame .edx) (load (cpu .p) 7 0)) = some 0 := by decide

/-- V3, V5, V6: CPUID of function 0; RDMSR and WRMSR outside CPL 0. -/
theorem test_V3_V5_V6 :
    refusalOf (exec .cpuid (load (cpu .p) 0 0)) = some (.cpuidFunction 0) ∧
    faultOf (exec .rdmsr (user (cpu .p))) = some (.raised 13 (some 0) 0xFFF0) ∧
    faultOf (exec .wrmsrTsc (user (cpu .pmmx))) = some (.raised 13 (some 0) 0xFFF0) := by decide

/-- V7, V8, V11: a reserved index. -/
theorem test_V7_V11 :
    refusalOf (exec .rdmsrReserved03 (cpu .p)) = some (.reservedMsr 3 false) ∧
    faultOf (exec .rdmsrReserved03 ((State.resetWith { Config.suggested .p with reservedPolicy := .gpFault }))) =
      some (.raised 13 (some 0) 0xFFF0) ∧
    faultOf (exec .rdmsrReserved03 (user (cpu .p))) = some (.raised 13 (some 0) 0xFFF0) := by decide

/-- V9, V10, V22: a write of TR2. -/
theorem test_V9_V10 :
    got (fun t => (t.cacheTest.tr2, portion t.cacheTest.endbuf 0)) (exec .wrmsrTr2 (load (cpu .p) 0 8)) = some (8, 8) ∧
    refusalOf (exec .wrmsrTr2 (load (cpu .pmmx) 0 8)) = some (.reservedMsr 4 true) := by decide

/-- V14, V15, V16, V69, V96: reserved bits. -/
theorem test_reserved_bits :
    refusalOf (exec .wrmsrCesr (load (cpu .p) 1 0)) = some (.reservedBits .cesr) ∧
    refusalOf (exec .wrmsrTr12 (load (cpu .p) 0 0x10)) = some (.reservedBits .tr12) ∧
    refusalOf (exec .wrmsrTr12 (load (cpu .p) 0 0x00080000)) = some (.reservedBits .tr12) ∧
    got State.cci (exec .wrmsrTr12 (load (cpu .pmmx) 0 0x00080000)) = some true ∧
    refusalOf (exec .wrmsrTr1 (load (cpu .p) 0 0x4000)) = some (.reservedBits .tr1) ∧
    refusalOf (exec .wrmsrCtr0 (load (cpu .p) 0x100 0)) = some (.reservedBits .ctr0) := by decide

/-- V20, V21: TR5 selects portion 5, TR3 fills it. -/
theorem test_V20_V21 :
    (match exec .wrmsrTr5 (load (cpu .p) 0 0x14) with
     | .next t => got (fun u => (u.cacheTest.tr3, portion u.cacheTest.fill 5, portion u.cacheTest.fill 4))
        (exec .wrmsrTr3 (load t 0 0x44332211))
     | _ => none) = some (0x44332211, 0x44332211, 0) := by decide

/-- V23: TR4 of 01234507h. -/
theorem test_V23 :
    got (·.cacheTest.tr4) (exec .wrmsrTr4 (load (cpu .p) 0 0x01234507)) = some ⟨0x12345, 1, 3⟩ := by decide

/-- A machine as before V24: the fill buffer 0 to 7, TR4 of V23, the end bits of portion 4 set. -/
def beforeV24 (v : Variant) : State :=
  (cpu v).withCacheTest
    { (cpu v).cacheTest with
      fill := Vector.ofFn fun k : Fin 8 => BitVec.ofNat 32 k.val
      tr4 := ⟨0x12345, 1, 3⟩
      endbuf := (Vector.replicate 8 0).set 4 9 }

/-- V24: `ICache[9][1]` written. -/
theorem test_V24 :
    got (fun t => let l := t.caches.codeLine (9 * 4 + 1); (l.valid, l.tag, portion l.data 4, portion l.endbits 4,
      t.caches.codeLru 9)) (exec .wrmsrTr5 (load (beforeV24 .p) 0 0x00001121)) = some (true, 0x12345, 4, 9, 1) := by
  decide

/-- V25: on `PMMX` way 3 and no end bits. -/
theorem test_V25 :
    got (fun t => let l := t.caches.codeLine (9 * 4 + 3); (l.valid, l.tag, portion l.endbits 4))
      (exec .wrmsrTr5 (load (beforeV24 .pmmx) 0 0x00081121)) = some (true, 0x12345, 0) := by decide

/-- V28: the line read back, portion 4. -/
theorem test_V28 :
    thenGot (.tr5ReadCode 4 9 1 false)
      (fun t => (t.cacheTest.tr3, t.cacheTest.tr2, t.cacheTest.tr4.tag))
      (exec (.tr5WriteCode 0 9 1 false) (beforeV24 .p)) = some (4, 9, 0x12345) := by decide

/-- A machine as before V26: the first portion CAFEF00Dh, the others 3, TR4 of tag 00400h and valid 11b. -/
def beforeV26 (v : Variant) : State :=
  (cpu v).withCacheTest
    { (cpu v).cacheTest with fill := (Vector.replicate 8 3).set 0 0xCAFEF00D, tr4 := ⟨0x00400, 0, 3⟩ }

/-- V26, V29: a modified line written and read back. -/
theorem test_V26_V29 :
    got (fun t => ((t.caches.dataLine 0).state, (t.caches.dataLine 0).tag, (t.caches.dataLine 0).wb))
      (exec (.tr5WriteData 0 0 0 true) (beforeV26 .p)) = some (.modified, 0x00400, true) ∧
    thenGot (.tr5ReadData 0 0 0 false) (fun t => (t.cacheTest.tr3, t.cacheTest.tr4))
      (exec (.tr5WriteData 0 0 0 true) (beforeV26 .p)) = some (0xCAFEF00D, ⟨0x00400, 0, 3⟩) := by decide

/-- V32, V34: the flush of a whole cache. -/
theorem test_V32_V34 :
    thenGot (.tr5FlushCode 0 0 0 false) (fun t => ((t.caches.codeLine 37).valid, (t.caches.codeLine 37).tag))
      (exec (.tr5WriteCode 0 9 1 false) (beforeV24 .p)) = some (false, 0x12345) ∧
    thenGot (.tr5FlushDataAll 0 0 0) (fun t => ((t.caches.dataLine 0).state, t.mem))
      (exec (.tr5WriteData 0 0 0 true) (beforeV26 .p)) = some (.invalid, []) := by decide

/-- V35: the flush of a modified line writes its bytes from 00400000h on, least significant first. -/
theorem test_V35 :
    thenGot (.tr5FlushDataLine 0 0 0)
      (fun t => ((t.caches.dataLine 0).state, [0, 1, 2, 3, 4, 32].map fun n => readByte t.mem (0x00400000 + n)))
      (exec (.tr5WriteData 0 0 0 true) (beforeV26 .p)) = some (.invalid, [0x0D, 0xF0, 0xFE, 0xCA, 0x03, 0x00]) := by
  decide

/-- V37, V39: outside the test procedure; TR5.19 on `P`. -/
theorem test_V37_V39 :
    refusalOf (exec (.tr5WriteCode 0 9 1 false) ((cpu .p).withCore { (cpu .p).core with cr0 := 0x20000010 })) =
      some (.normalOperation .tr5) ∧
    refusalOf (exec .wrmsrTr5 (load (cpu .p) 0 0x00081121)) = some (.reservedBits .tr5) := by decide

/-- V40: TR7 of 00123018h. V44: a TLB write with H = 0. -/
theorem test_V40_V44 :
    got (·.tlbTest.tr7) (exec .wrmsrTr7 (load (cpu .p) 0 0x00123018)) = some ⟨0x00123, false, false, 0, true, 2⟩ ∧
    refusalOf (exec .wrmsrTr6 (load (cpu .p) 0 0x00400800)) = some .tlbHitBitClear := by decide

/-- A machine with TR7 of physical page 00800h, H = 1 and entry 63. -/
def beforeV45 : State := (cpu .pmmx).withTlbTest { (cpu .pmmx).tlbTest with tr7 := ⟨0x00800, false, false, 0, true, 63⟩ }

/-- V45, V46: a 4-Mbyte data entry answers another page of it. -/
theorem test_V46 :
    thenGot (.tr6ReadData 0x00812 false false false false false)
      (fun t => (t.tlbTest.tr7.h, t.tlbTest.tr7.pa, t.tlbTest.tr7.entry, t.tlbTest.tr6))
      (exec (.tr6WriteData 0x00800 true true false true true) beforeV45) =
    some (true, 0x00800, 63, ⟨0x00812, true, true, false, true, true, true, true⟩) := by decide

/-- V48: the next 4-Mbyte page misses. V49a: the code TLB uses five entry bits. -/
theorem test_V48_V49a :
    thenGot (.tr6ReadData 0x00C00 false false false false false) (·.tlbTest.tr7.h)
      (exec (.tr6WriteData 0x00800 true true false true true) beforeV45) = some false ∧
    got (fun t => (t.tlbs.entry .code 31).lpn) (exec (.tr6WriteCode 0x00400 true false false false false) beforeV45) =
      some 0x00400 ∧
    thenGot (.tr6ReadCode 0x00400 false false false false false) (fun t => (t.tlbTest.tr7.h, t.tlbTest.tr6.la))
      (exec (.tr6WriteCode 0x00400 true false false false false) beforeV45) = some (true, 0) := by decide

/-- A machine with TR9 and TR10 of V50 and V51. -/
def beforeV52 : State := (btbCpu .pmmx).withBtbTest ⟨0x004012B3, 0x00402000, 0⟩

/-- V52: `BTB[3][1][1]` written. V53: the same tag in way 2 overwrites it. -/
theorem test_V52_V53 :
    got (fun t => t.btbEntry 3 1 1) (exec .wrmsrTr11 (load beforeV52 0 0x02000345)) =
      some ⟨0x004012, 3, 0x00402000, true, 2, true, 2⟩ ∧
    (match exec (.tr11Write 2 3 1 1) beforeV52 with
     | .next t => got (fun u => ((u.btbEntry 3 1 1).target, (u.btbEntry 3 2 1).valid))
        (exec (.tr11Write 2 3 1 2) (t.withBtbTest { t.btbTest with tr10 := 0x00403000 }))
     | _ => none) = some (0x00403000, false) := by decide

/-- V54, V55: read data, then read TAG. -/
theorem test_V54_V55 :
    (match exec (.tr11Write 2 3 1 1) beforeV52 with
     | .next t =>
       match exec (.tr11ReadData 0 3 1 1) (t.withBtbTest ⟨0, 0, 0⟩) with
       | .next u => (u.btbTest == ⟨0x00000093, 0x00402000, 0x02000346⟩) &&
          (got (fun w => w.btbTest) (exec (.tr11ReadTag 0 3 1 1) u) == some ⟨0x004012B3, 0x00402000, 0x00001345⟩)
       | _ => false
     | _ => false) = true := by decide

/-- V56, V57, V60b: flush, reserved controls, NBP = 0. -/
theorem test_V56_V57 :
    thenGot (.tr11Flush 0 0 0 0) (fun t => ((t.btbEntry 3 1 1).valid, (t.btbEntry 3 1 1).tag))
      (exec (.tr11Write 2 3 1 1) beforeV52) = some (false, 0x004012) ∧
    refusalOf (exec .wrmsrTr11 (load beforeV52 0 0x1344)) = some (.btbReservedControl 4) ∧
    refusalOf (exec (.tr11Write 2 3 1 1) (cpu .pmmx)) = some (.normalOperation .tr11) := by decide

/-- V58, V59: `P` writes a valid entry and reads tag and history in one cycle. -/
theorem test_V58_V59 :
    (match exec (.tr11Write 0 3 0 1) ((btbCpu .p).withBtbTest ⟨0x00401203, 0x00402000, 0⟩) with
     | .next t => (t.btbEntry 3 1 0).valid && (got (fun u => (u.btbTest.tr9, u.btbTest.tr10))
        (exec (.tr11ReadData 0 3 0 1) (t.withBtbTest ⟨0, 0, 0⟩)) == some (0x00401203, 0x00402000))
     | _ => false) = true := by decide

/-- V61, V66, V67: TR1 and the transition of MC. -/
theorem test_V61_V66 :
    got (fun t => (t.parity.pes, t.parity.ns, t.parity.it, t.parity.dt, t.parity.dd))
      (exec .wrmsrTr1 (load (cpu .p) 0 0x206)) = some (false, true, true, true, false) ∧
    got (fun t => (t.parity.mcBadPending, t.parity.mcPrev)) (exec .wrmsrTr1 (load (cpu .p) 0 0x2002)) =
      some (true, true) ∧
    got (·.parity.mcBadPending) (exec .wrmsrTr1 ((load (cpu .p) 0 0x2002).withParity ⟨false, 0, true, false⟩)) =
      some false := by decide

/-- V62, V63, V65: a reversed tag parity is found; with NS = 0 the machine shuts down. -/
theorem test_V63_V65 :
    thenGot (.tr5ReadCode 4 9 1 false) (fun t => (t.parity.pes, t.trace, t.run, t.cacheTest.tr3))
      (exec (.tr5WriteCode 0 9 1 false) ((beforeV24 .p).withParity ⟨false, 0x103, false, false⟩)) =
        some (true, [.ierr], .running, 4) ∧
    thenGot (.tr5ReadCode 4 9 1 false) (fun t => (t.parity.pes, t.trace, t.run, t.cacheTest.tr3))
      (exec (.tr5WriteCode 0 9 1 false) ((beforeV24 .p).withParity ⟨false, 0x102, false, false⟩)) =
        some (true, [.ierr], .shutdown, 0) := by decide

/-- V72, V73: branch traces. -/
theorem test_V72_V73 :
    got (·.trace) (agentMove (.takenBranch 1 2) ((cpu .p).withTr12 0x102)) = some [.branchFrom 1] ∧
    got (·.trace) (agentMove (.takenBranch 1 2) ((cpu .p).withTr12 0x002)) = some [.branchTo 2, .branchFrom 1] ∧
    got (·.trace) (agentMove (.takenBranch 1 2) ((cpu .p).withTr12 0x100)) = some [] := by decide

/-- V77, V78, V79: RDTSC. -/
theorem test_V77_V79 :
    got (fun t => (t.core.edx, t.core.eax, t.core.eip))
      (exec .rdtsc (user ((cpu .p).withPerf { (cpu .p).perf with tsc := 0x100000005 }))) = some (1, 5, 0xFFF2) ∧
    faultOf (exec .rdtsc (user ((cpu .p).withCore { (cpu .p).core with cr4 := 4 }))) =
      some (.raised 13 (some 0) 0xFFF0) ∧
    got (·.core.eax) (exec .rdtsc ((cpu .p).withCore { (cpu .p).core with cr4 := 4 })) = some 0 := by decide

/-- V81, V83, V96: the time stamp counter wraps; writes of TSC and CTR0. -/
theorem test_V83_V96 :
    (tick (clockEnv (cpu .p)) none { (cpu .p).perf with tsc := BitVec.allOnes 64 }).tsc = 0 ∧
    got (·.perf.tsc) (exec .wrmsrTsc (load (cpu .p) 0x12345678 0x9ABCDEF0)) = some 0x123456789ABCDEF0 ∧
    got (·.perf.ctr0) (exec .wrmsrCtr0 (load (cpu .p) 0xFF 0xFFFFFFFD)) = some 0xFFFFFFFFFD ∧
    got (·.perf.ctr1) (exec .wrmsrCtr1 (load (cpu .p) 0 7)) = some 7 := by decide

/-- V84, V85, V87: the control fields, and the wrap of a counter that counts clocks. -/
theorem test_V84_V87 :
    [0, 1, 2, 3, 4, 5, 6, 7].map (fun cc => (counterEnabled cc 0, counterEnabled cc 3)) =
      [(false, false), (true, false), (false, true), (true, true), (false, false), (true, false), (false, true),
        (true, true)] ∧
    (let q := tick (clockEnv (cpu .p)) none { (cpu .p).perf with cesr := 0x1C0, ctr0 := 0xFFFFFFFFFF }
     (q.ctr0, q.inc0, q.ovf0)) = (0, true, true) ∧
    (cesrEs (Config.suggested .p) 0x00D700D6 0, cesrEs (Config.suggested .p) 0x00D700D6 1) = (22, 23) := by decide

/-- V90: HLT enters the HALT state; it counts once in event 22, and so does a FLUSH# service. -/
theorem test_V90 :
    got (fun t => (t.run, t.core.eip)) (exec .hlt (cpu .p)) = some (.halted, 0xFFF1) ∧
    (tick (clockEnv (cpu .p)) (some .instruction) { (cpu .p).perf with cesr := 0x00D6 }).ctr0 = 1 ∧
    (tick (clockEnv (cpu .p)) (some .flushService) { (cpu .p).perf with cesr := 0x00D6 }).ctr0 = 1 ∧
    (tick (clockEnv (cpu .p)) none { (cpu .p).perf with cesr := 0x00D6 }).ctr0 = 0 := by decide

/-- V91 to V95: RDPMC. -/
theorem test_V91_V95 :
    got (fun t => (t.core.edx, t.core.eax))
      (exec .rdpmcCtr1 (((cpu .pmmx).withCore { (cpu .pmmx).core with cpl := 3, cr4 := 0x100 }).withPerf
        { (cpu .pmmx).perf with ctr1 := 0x123456789A })) = some (0x12, 0x3456789A) ∧
    faultOf (exec .rdpmcCtr0 (user (cpu .pmmx))) = some (.raised 13 (some 0) 0xFFF0) ∧
    faultOf (exec (.rdpmcOther 2) (cpu .pmmx)) = some (.raised 13 (some 0) 0xFFF0) ∧
    faultOf (exec .rdpmcOnP (user (cpu .p))) = some (.raised 6 none 0xFFF0) := by decide

/-- V97, V98, V99: which codes select an event on which counter. -/
theorem test_V97_V99 :
    eventOf .p 42 0 = none ∧ eventOf .p 16 1 = none ∧ eventOf .pmmx 60 1 = none ∧ eventOf .pmmx 57 1 = none ∧
    (eventOf .pmmx 48 0).map (·.name) = some "Number of Cycles Not in HLT State" ∧
    (eventOf .pmmx 48 1).map (·.name) = some "Clocks stalled on Data cache TLB miss" := by decide

/-- The table of events has a row for each code and counter at most. -/
theorem test_event_rows : eventRows.length = 73 ∧
    (eventRows.map fun r => (r.code, match r.counters with | .both => 2 | .only i => i.val)).Nodup := by decide

/-- One step from reset runs the placed instruction (log 37). -/
theorem test_withFetchWord :
    got (fun t => t.run) (step (State.reset.withFetchWord 8 0xF4)) = some .halted ∧
    got (fun t => t.core.eip) (step (State.reset.withFetchWord 16 0x0F31)) = some 0xFFF2 ∧
    got (fun t => t.cacheTest.tr5.cd) (step (State.reset.withFetchWord 16 0x2000)) = some true ∧
    decodeTableWord 16 0x0F30 = some .wrmsr ∧ decodeTableWord 32 0x10 = some .rdmsrTsc := by decide

/-! ### Witnesses: a state and operands that meet the hypotheses of each statement, clause by clause -/

theorem cpu_p_fits : (cpu .p).FieldsFit :=
  ⟨⟨by decide, (fun _ h => nomatch h), (fun _ h => nomatch h)⟩, by decide, by decide, by decide,
    (fun _ h => nomatch h), (fun _ h => nomatch h), (fun _ h => nomatch h), by decide, by decide, by decide⟩

theorem cpu_p_canonical : (cpu .p).Canonical := by decide

theorem cpu_pmmx_canonical : (cpu .pmmx).Canonical := by decide

theorem cpu_pmmx_fits : (cpu .pmmx).FieldsFit :=
  ⟨⟨by decide, (fun _ h => nomatch h), (fun _ h => nomatch h)⟩, rfl, (fun _ h => nomatch h)⟩

theorem witness_DecodeOfEncode :
    (Config.suggested .p).check = true ∧ (Config.suggested .pmmx).check = true ∧
    Instr.check (Config.suggested .p) (.tr5WriteCode 7 127 1 true) = true ∧
    Instr.check (Config.suggested .p) (.tr11Write 0 63 0 3) = true ∧
    Instr.check (Config.suggested .pmmx) (.tr11ReadTag 3 15 3 3) = true ∧
    Instr.check (Config.suggested .pmmx) (.rdmsrReservedAbove 0x14) = true := by decide

theorem witness_EncodeOfDecodedBytes :
    decodeBytes .p [0x0F, 0x30, 0x90] = .ok .wrmsr ∧ decodeBytes .pmmx [0x25, 1, 2, 3, 4] = .ok (.andEaxImm 0x04030201) := by
  decide

/-- A running machine whose next instruction is HLT, which completes at CPL 0 and faults elsewhere; CPUID of function
0, which is refused; bytes that decode to nothing; the core's turn at the head of the agenda. -/
theorem witness_StepRunsDecodedInstruction :
    (withBytes .p [0xF4]).run = .running ∧ CoreTurn (withBytes .p [0xF4]) ∧
    CoreTurn ((withBytes .p [0xF4]).withAgenda [.core, .agent .flush]) ∧
    (withBytes .p [0xF4]).parity.mcBadPending = false ∧ decodeAt (withBytes .p [0xF4]) = .ok .hlt ∧
    got (·.run) (exec .hlt (beforeInstruction (withBytes .p [0xF4]))) = some .halted ∧
    faultOf (exec .hlt (beforeInstruction (user (withBytes .p [0xF4])))) = some (.raised 13 (some 0) 0xFFF0) ∧
    decodeAt (withBytes .p [0x0F, 0xA2]) = .ok .cpuid ∧
    refusalOf (exec .cpuid (beforeInstruction (withBytes .p [0x0F, 0xA2]))) = some (.cpuidFunction 0) ∧
    decodeAt (withBytes .p [0x90]) = .error (.firstByte 0x90) :=
  ⟨rfl, .inl rfl, .inr rfl, rfl, by decide, by decide, by decide, by decide, by decide, by decide⟩

/-- A fetch that finds no line; and one that finds a good line of the code cache, at FFFFFFE0h. -/
theorem witness_QuietFetch :
    (withBytes .p [0xF4]).core.cr0.getLsbD 31 = false ∧ QuietFetch (withBytes .p [0xF4]) 0xFFF0 ∧
    QuietFetch ((cpu .pmmx).withCaches ⟨[(511, { CodeLine.empty with tag := 0xFFFFF, valid := true })], [], [], []⟩)
      0xFFFFFFE0 :=
  ⟨by decide, .inl (by decide), .inr ⟨511, by decide, rfl, rfl⟩⟩

theorem witness_ShutdownAndHaltSteps :
    ((cpu .p).withRun .shutdown).run = .shutdown ∧ CoreTurn ((cpu .p).withRun .shutdown) ∧
    (((cpu .p).withRun .shutdown).withAgenda [.agent .flush]).agenda = .agent .flush :: [] ∧
    Agent.flush ≠ .reset ∧ ((cpu .p).withAgenda [.agent .reset, .core]).agenda = .agent .reset :: [.core] ∧
    ((cpu .p).withRun .halted).run = .halted ∧ CoreTurn ((cpu .p).withRun .halted) ∧
    ((cpu .p).withRun .halted).parity.mcBadPending = false ∧
    ((cpu .p).withAgenda [.agent .flush]).run ≠ .shutdown ∧
    ((cpu .p).withAgenda [.agent .flush]).parity.mcBadPending = false :=
  ⟨rfl, .inl rfl, rfl, by decide, rfl, rfl, .inl rfl, rfl, by decide, rfl⟩

/-- Two RDTSC, the second ending at the last address where the hypothesis holds. -/
def twoRdtsc : State :=
  ((cpu .p).withCore { (cpu .p).core with eip := 0xFFFFFFFB }).withCode
    (writeBytes [] 0xFFFFFFFB [0x0F, 0x31, 0x0F, 0x31])

theorem witness_TimeStampCounterGrows :
    twoRdtsc.run = .running ∧ CoreTurn twoRdtsc ∧ CoreTurn twoRdtsc.turnTaken ∧ twoRdtsc.parity.mcBadPending = false ∧
    twoRdtsc.core.cr4.getLsbD 2 = false ∧ twoRdtsc.core.cr0.getLsbD 31 = false ∧
    twoRdtsc.core.eip.toNat + 4 ≤ 2 ^ 32 - 1 ∧
    fetchBytes twoRdtsc.code twoRdtsc.core.eip.toNat 2 = [0x0F, 0x31] ∧
    fetchBytes twoRdtsc.code (twoRdtsc.core.eip.toNat + 2) 2 = [0x0F, 0x31] ∧
    (∀ n, n < 4 → codeHits (twoRdtsc.core.eip + BitVec.ofNat 32 n) twoRdtsc = [] ∧
      dataHits (twoRdtsc.core.eip + BitVec.ofNat 32 n) twoRdtsc = []) :=
  ⟨rfl, .inl rfl, .inl rfl, rfl, by decide, by decide, by decide, by decide, by decide, by decide⟩

/-- A well-formed configuration, canonical data, fields within their widths, and a step that answers a next state. -/
theorem witness_StepKeeps :
    (withBytes .p [0xF4]).cfg.check = true ∧
    (withBytes .p [0xF4]).pins = .performanceMonitoring ∧
    got (·.run) (step (withBytes .p [0xF4])) = some .halted := by decide

theorem witness_StepKeepsCanonical : (withBytes .p [0xF4]).Canonical := by decide

theorem witness_StepKeepsFieldsFit : (withBytes .p [0xF4]).FieldsFit := cpu_p_fits

theorem witness_CpuidResult : (load (cpu .p) 0 1).core.eax = 1 ∧ (load (cpu .pmmx) 0 2).core.eax ≠ 1 := by decide

theorem witness_HltResult : (cpu .p).core.cpl = 0 ∧ (user (cpu .p)).core.cpl ≠ 0 := by decide

/-- A machine with a value in CR4, at a privilege level. -/
def withCr4 (v : Variant) (cr4 : Word) (cpl : Fin 4) : State :=
  (cpu v).withCore { (cpu v).core with cr4 := cr4, cpl := cpl }

theorem witness_RdtscResult :
    (withCr4 .p 0 3).core.cr4.getLsbD 2 = false ∧ (withCr4 .p 4 0).core.cpl = 0 ∧
    (withCr4 .p 4 1).core.cr4.getLsbD 2 = true ∧ (withCr4 .p 4 1).core.cpl ≠ 0 := by decide

theorem witness_RdpmcResult :
    (withCr4 .pmmx 0 0).cfg.variant = .pmmx ∧ (withCr4 .pmmx 0 0).core.cpl = 0 ∧
    (withCr4 .pmmx 0x100 3).core.cr4.getLsbD 8 = true ∧ (withCr4 .pmmx 0 0).core.ecx = 0 ∧
    ((cpu .pmmx).withCore { (cpu .pmmx).core with ecx := 1 }).core.ecx = 1 ∧
    (withCr4 .pmmx 0 1).core.cpl ≠ 0 ∧ (withCr4 .pmmx 0 1).core.cr4.getLsbD 8 = false ∧
    2 ≤ ((cpu .pmmx).withCore { (cpu .pmmx).core with ecx := 2 }).core.ecx.toNat := by decide

theorem witness_RdpmcUndefinedOnP : (cpu .p).cfg.variant = .p := by decide

/-- `ECX` and `EDX:EAX` of an access to a register. -/
def access (s : State) (ecx edx eax : Word) : State :=
  s.withCore { s.core with ecx := ecx, edx := edx, eax := eax }

theorem witness_SelectionIsByEcxAndValue :
    selectCommand (cpu .p).cfg (access (cpu .p) 7 0 0x1121).core.edxEax
      (selectWrmsr .p (access (cpu .p) 7 0 0x1121).core.ecx) = .ok (.tr5WriteCode 0 9 1 false) := by decide

theorem witness_RdmsrCompletes :
    (cpu .p).core.cpl = 0 ∧ (cpu .p).cfg.variant = .p ∧ msrOfIndex .p (access (cpu .p) 4 0 0).core.ecx = some .tr2 ∧
    msrOfIndex .pmmx (access (cpu .pmmx) 0x13 0 0).core.ecx = some .ctr1 := by decide

theorem witness_WrmsrCompletes :
    (access (cpu .p) 4 0 0xF).core.cpl = 0 ∧ Msr.tr2 ∉ [Msr.mca, .mct, .tr5, .tr6, .tr11] ∧
    hasReservedOne (cpu .p).cfg .tr2 (access (cpu .p) 4 0 0xF).core.edxEax = false ∧
    CacheTestSet (access (cpu .p) 4 0 0xF) ∧ TlbTestSet (cpu .p) ∧ (cpu .p).cfg.variant = .p ∧
    msrOfIndex .p (access (cpu .p) 4 0 0xF).core.ecx = some .tr2 ∧
    hasReservedOne (btbCpu .pmmx).cfg .tr9 (access (btbCpu .pmmx) 0xB 0 0xFFFFFFFF).core.edxEax = false ∧
    BtbTestSet (access (btbCpu .pmmx) 0xB 0 0xFFFFFFFF) ∧
    msrOfIndex .pmmx (access (btbCpu .pmmx) 0xB 0 0xFFFFFFFF).core.ecx = some .tr9 := by decide

theorem witness_WrmsrCompletes_noReservedOne :
    NoReservedOne (cpu .p).cfg .tr2 (access (cpu .p) 4 0 0xF).core.edxEax := noReservedOne_iff.mpr (by decide)

theorem witness_MsrAccessNeedsCpl0 :
    (user (cpu .p)).core.cpl ≠ 0 ∧
    selectCommand (cpu .p).cfg 0x1121 (selectWrmsr .p 7) = .ok (.tr5WriteCode 0 9 1 false) := by decide

theorem witness_ReservedIndexStops :
    (cpu .p).core.cpl = 0 ∧ (cpu .p).cfg.reservedPolicy = .refuse ∧ msrOfIndex .p 0x13 = some .ctr1 ∧
    msrOfIndex .p 0x14 = none ∧ msrOfIndex .pmmx 0x04 = none ∧
    (State.resetWith { Config.suggested .pmmx with reservedPolicy := .gpFault }).cfg.reservedPolicy = .gpFault ∧
    (State.resetWith { Config.suggested .pmmx with reservedPolicy := .gpFault }).cfg.variant = .pmmx := by decide

/-- The reserved bits of the statements are those outside the fields, for the suggested layouts. -/
theorem test_reserved_positions (v : Variant) (m : Msr) (n : Nat) (h : n < 64) (hm : m ∉ [Msr.mca, .mct, .tsc])
    (h2 : m = .tr2 → v = .p) :
    ReservedBit (Config.suggested v) m n ↔ (msrMask (Config.suggested v) m).getLsbD n = false := by
  revert n
  cases v <;> cases m <;> simp_all [ReservedBit, show ∀ v, (Config.suggested v).variant = v from fun _ => rfl] <;> decide

theorem witness_ReservedOneIsRefused :
    (load (cpu .p) 0 0x10).core.cpl = 0 ∧ (cpu .p).cfg.variant = .p ∧ ReservedBit (cpu .p).cfg .tr2 4 ∧
    (load (cpu .p) 0 0x10).core.edxEax.getLsbD 4 = true ∧ ReservedBit (cpu .p).cfg .tr10 32 ∧
    (load (cpu .p) 1 0).core.edxEax.getLsbD 32 = true ∧ ReservedBit (cpu .pmmx).cfg .tr1 63 ∧
    (load (cpu .pmmx) 0x80000000 0).core.edxEax.getLsbD 63 = true ∧
    2 ≤ (2#2).toNat ∧ tr11Fits .p 1 0 0 = false ∧ tr11Fits .p 0 0 1 = false ∧ tr11Fits .pmmx 0 16 0 = false ∧
    BtbTestSet (btbCpu .pmmx) ∧ (15#6).toNat < 16 :=
  ⟨rfl, rfl, Nat.le_refl 4, by decide, Nat.le_refl 32, by decide, (by decide : 14 ≤ 63), by decide, by decide,
    by decide, by decide, by decide, by decide, by decide⟩

/-- CPL 0 outside both test procedures. -/
def outside (v : Variant) : State := (cpu v).withCore { (cpu v).core with cr0 := 0x40000010 }

theorem witness_UnpredictableWritesAreRefused :
    (outside .p).core.cpl = 0 ∧ (outside .p).cfg.check = true ∧ ¬CacheTestSet (outside .p) ∧
    ¬BtbTestSet (outside .p) ∧ (outside .p).cfg.variant = .p ∧
    hasReservedOne (outside .p).cfg .tr2 (outside .p).core.edxEax = true ∧
    hasReservedOne (outside .p).cfg .tr2 (load (outside .p) 0 0xF).core.edxEax = false ∧
    hasReservedOne (outside .p).cfg .tr5 (load (outside .p) 0 0x1121).core.edxEax = false ∧
    selectCommand (outside .p).cfg (load (outside .p) 0 0x1121).core.edxEax (wrmsrRow .tr5) =
      .ok (.tr5WriteCode 0 9 1 false) ∧
    hasReservedOne (outside .p).cfg .tr11 (load (outside .p) 0 1).core.edxEax = false ∧
    selectCommand (outside .p).cfg (load (outside .p) 0 1).core.edxEax (wrmsrRow .tr11) =
      .ok (.tr11Write 0 0 0 0) := by decide

/-- A machine with paging on. -/
def paged (s : State) : State := s.withCore { s.core with cr0 := 0xE0000010 }

/-- A TLB test sequence that is open, with an entry under test; and a broken one. -/
def tlbSequenceCpu (broken : Bool) : State :=
  ((cpu .pmmx).withTlbs ⟨[(31, { TlbEntry.empty with v := true, lpn := 0x400 })], [], [], [], [], []⟩).withTlbSequence
    ⟨true, [(.code, 31)], broken⟩

theorem witness_UnpredictableWritesAreRefused_tlb :
    ¬TlbTestSet (tlbSequenceCpu true) ∧ (tlbSequenceCpu true).core.cpl = 0 ∧ (tlbSequenceCpu true).cfg.check = true ∧
    hasReservedOne (tlbSequenceCpu true).cfg .tr6 (load (tlbSequenceCpu true) 0 0x00400800).core.edxEax = false ∧
    hasReservedOne (tlbSequenceCpu true).cfg .tr7 (load (tlbSequenceCpu true) 0 0x00400010).core.edxEax = false ∧
    selectCommand (tlbSequenceCpu true).cfg (load (tlbSequenceCpu true) 0 0x00400800).core.edxEax (wrmsrRow .tr6) =
      .ok (.tr6WriteCode 0x00400 true false false false false) ∧
    (tlbSequenceCpu false).core.cr0.getLsbD 31 = false := by decide

theorem witness_UnpredictableWritesAreRefused_paging :
    let s := paged (tlbSequenceCpu false)
    s.core.cr0.getLsbD 31 = true ∧ s.core.cpl = 0 ∧ s.cfg.check = true ∧ s.tlbSequence.active = true ∧
    tlbMatches s.cfg.variant s.tlbs (tlbOf s.cfg.variant .code) 0x400 = [31] ∧
    (tlbOf s.cfg.variant .code, 31) ∈ s.tlbSequence.tested := by decide

theorem witness_RdmsrTestRegisters :
    (cpu .p).core.cpl = 0 ∧ (cpu .p).cfg.check = true ∧
    ((cpu .p).withCacheTest { (cpu .p).cacheTest with tr4UpperZero := true }).cacheTest.tr4UpperZero = true := by decide

theorem witness_WrmsrTr1 : (load (cpu .p) 0 0x3FFF).core.cpl = 0 ∧ edxEaxNat (load (cpu .p) 0 0x3FFF) < 2 ^ 14 := by
  decide

theorem witness_WrmsrTr2AndTr3 :
    (load (cpu .p) 0 15).core.cpl = 0 ∧ CacheTestSet (load (cpu .p) 0 15) ∧ (load (cpu .p) 0 15).core.edx = 0 ∧
    (cpu .p).cfg.variant = .p ∧ edxEaxNat (load (cpu .p) 0 15) < 16 := by decide

theorem witness_Tr4AndTr7ReadBack :
    (load (cpu .p) 0 0x01234507).core.cpl = 0 ∧ (cpu .p).cfg.check = true ∧
    CacheTestSet (load (cpu .p) 0 0x01234507) ∧
    hasReservedOne (cpu .p).cfg .tr4 (load (cpu .p) 0 0x01234507).core.edxEax = false ∧
    TlbTestSet (load (cpu .p) 0 0x00123018) ∧
    hasReservedOne (cpu .p).cfg .tr7 (load (cpu .p) 0 0x00123018).core.edxEax = false := by decide

theorem witness_WrmsrStoresValue :
    (load (btbCpu .p) 0 0xFFFFFFC3).core.cpl = 0 ∧ BtbTestSet (load (btbCpu .p) 0 0xFFFFFFC3) ∧
    hasReservedOne (btbCpu .p).cfg .tr9 (load (btbCpu .p) 0 0xFFFFFFC3).core.edxEax = false ∧
    (load (btbCpu .p) 0 0xFFFFFFC3).core.edx = 0 ∧
    hasReservedOne (btbCpu .p).cfg .tr12 (load (btbCpu .p) 0 0x30F).core.edxEax = false ∧
    (load (cpu .p) 0xFF 0xFFFFFFFF).core.edx.toNat < 2 ^ 8 ∧
    hasReservedOne (cpu .p).cfg .cesr (load (cpu .p) 0 0x00D700D6).core.edxEax = false := by decide

theorem witness_CommandRegistersRunCommands :
    (load (cpu .pmmx) 0 0x00081121).core.cpl = 0 ∧ (cpu .pmmx).cfg.check = true ∧
    CacheTestSet (load (cpu .pmmx) 0 0x00081121) ∧
    hasReservedOne (cpu .pmmx).cfg .tr5 (load (cpu .pmmx) 0 0x00081121).core.edxEax = false ∧
    hasReservedOne beforeV45.cfg .tr6 (load beforeV45 0 0x00800D82).core.edxEax = false ∧
    (unpackTr6 beforeV45.cfg (load beforeV45 0 0x00800D82).core.edxEax).op = false ∧ beforeV45.tlbTest.tr7.h = true ∧
    (unpackTr6 beforeV45.cfg (load beforeV45 0 0x00812203).core.edxEax).op = true ∧
    searchData .pmmx beforeV45.tlbs 0x00812 ≠ .double ∧ TlbTestSet beforeV45 ∧
    hasReservedOne beforeV52.cfg .tr11 (load beforeV52 0 0x02000345).core.edxEax = false ∧ BtbTestSet beforeV52 ∧
    (unpackTr11 .pmmx (load beforeV52 0 0x02000345).core.edxEax).control ∉ [4#3, 6#3, 7#3] ∧
    (btbCpu .p).cfg.variant = .p ∧
    validSameTagWays (unpackTr11 .p (load (btbCpu .p) 0 0xC5).core.edxEax) (btbCpu .p) = [] := by decide

theorem witness_CacheTest :
    (cpu .p).core.cpl = 0 ∧ CacheTestSet (cpu .p) ∧ (cpu .p).cfg.variant = .p ∧ (1#2).toNat < 2 ∧
    (cpu .pmmx).core.cpl = 0 ∧ CacheTestSet (cpu .pmmx) := by decide

/-- A machine with a code and a data cache line at key 511, set 127 and way 3. -/
def withLines (l : CodeLine) (d : DataLine) : State := (cpu .pmmx).withCaches ⟨[(511, l)], [], [(511, d)], []⟩

/-- Lines of good parity with other fields set. -/
def goodLines : State :=
  withLines { CodeLine.empty with tag := 0xFFFFF, valid := true } { DataLine.empty with tag := 0xFFFFF, state := .modified }

theorem witness_CodeCacheRead :
    goodLines.core.cpl = 0 ∧ CacheTestSet goodLines ∧ goodLines.caches.codeLine ((127#7).toNat * 4 + (3#2).toNat) =
      { CodeLine.empty with tag := 0xFFFFF, valid := true } ∧
    ({ CodeLine.empty with tag := 0xFFFFF, valid := true } : CodeLine).badTag = false ∧
    ({ CodeLine.empty with tag := 0xFFFFF, valid := true } : CodeLine).badData = 0 := by decide

theorem witness_DataCacheRead :
    goodLines.caches.dataLine ((127#7).toNat * 4 + (3#2).toNat) =
      { DataLine.empty with tag := 0xFFFFF, state := .modified } ∧
    ({ DataLine.empty with tag := 0xFFFFF, state := .modified } : DataLine).badTag = false ∧
    [0#3, 1, 2, 3, 4, 5, 6, 7].all (fun k => portion DataLine.empty.badByte k == 0) = true := by decide

/-- Two lines with what is bad of them. -/
def badLines (ns : BitVec 13) (tag : Bool) (groups bytes : BitVec 4) : State :=
  (withLines { CodeLine.empty with badTag := tag, badData := groups }
    { DataLine.empty with badTag := tag, badByte := (Vector.replicate 8 0).set 7 bytes }).withParity ⟨false, ns, false, false⟩

/-- A bad tag; bad data of the last group, and of the last byte of portion 7; NS set and clear. -/
theorem witness_BadParityIsReported :
    (badLines 1 true 0 0).core.cpl = 0 ∧ CacheTestSet (badLines 1 true 0 0) ∧ 511 = (127#7).toNat * 4 + (3#2).toNat ∧
    ((badLines 1 true 0 0).caches.codeLine 511).badTag = true ∧
    ((badLines 1 true 0 0).caches.dataLine 511).badTag = true ∧ 4 ≤ (7#3).toNat ∧ (3#3).toNat < 4 ∧
    ((badLines 0 false 8 8).caches.codeLine 511).badData.getLsbD 3 = true ∧
    ((badLines 0 false 1 1).caches.codeLine 511).badData.getLsbD 0 = true ∧
    portion ((badLines 0 false 8 8).caches.dataLine 511).badByte 7 ≠ 0 ∧
    (badLines 1 true 0 0).parity.bit 1 = true ∧ (badLines 0 true 0 0).parity.bit 1 = false := by decide

/-- Bad data in the half read is reported, bad data in the other half of a code line may be (rule R206). -/
theorem test_bad_data :
    got (fun t => (t.parity.pes, t.cacheTest.tr4UpperZero)) (exec (.tr5ReadCode 7 127 3 false) (badLines 1 false 8 0)) =
      some (true, true) ∧
    got (fun t => (t.parity.pes, t.run)) (exec (.tr5ReadData 7 127 3 false) (badLines 0 false 0 8)) =
      some (true, .shutdown) := by decide

theorem witness_DataLineFlush :
    goodLines.core.cpl = 0 ∧ CacheTestSet goodLines ∧
    goodLines.caches.dataLine ((127#7).toNat * 4 + (3#2).toNat) =
      { DataLine.empty with tag := 0xFFFFF, state := .modified } ∧
    0xFFFFFFE0#32 = lineAddress goodLines.cfg 0xFFFFF 127 ∧ goodLines.cfg.cacheTagBits = 20 ∧
    (cpu .p).caches.dataLine ((0#7).toNat * 4 + (1#2).toNat) = DataLine.empty ∧ DataLine.empty.state ≠ .modified ∧
    0#32 = lineAddress (cpu .p).cfg DataLine.empty.tag 0 := by decide

theorem witness_CacheWriteThenRead :
    (cpu .p).parity.bit 2 = false ∧ (cpu .p).parity.prrl.extractLsb' 2 4 = 0 ∧ (cpu .p).parity.bit 9 = false ∧
    (cpu .p).parity.bit 10 = false := by decide

/-- NS, IT and DT set. -/
def reversedTags : State := (cpu .p).withParity ⟨false, 0x103, false, false⟩

theorem witness_ReversedParityIsDetected :
    reversedTags.core.cpl = 0 ∧ CacheTestSet reversedTags ∧ reversedTags.parity.bit 1 = true ∧
    reversedTags.parity.bit 2 = true ∧ reversedTags.parity.bit 9 = true := by decide

/-! ### Witnesses: TLBs -/

theorem witness_TlbWrite : beforeV45.core.cpl = 0 ∧ TlbTestSet beforeV45 ∧ beforeV45.tlbTest.tr7.h = true := by decide

/-- A machine with TLBs. -/
def withTlb (v : Variant) (code data data4M : Sparse TlbEntry) : State := (cpu v).withTlbs ⟨code, data, data4M, [], [], []⟩

/-- A valid entry of a linear page, 4-Kbyte or 4-Mbyte. -/
def pageEntry (la : BitVec 20) (ps : Bool) : TlbEntry := { TlbEntry.empty with v := true, lpn := la, ps := ps }

/-- The first and the last entry of each TLB of `PMMX` hold page 00400h. -/
def doubleTlb : State :=
  paged (withTlb .pmmx [(0, pageEntry 0x400 false), (31, pageEntry 0x400 false)]
    [(0, pageEntry 0x400 false), (63, pageEntry 0x400 true)] [])

theorem witness_TlbRefusals :
    (cpu .p).tlbTest.tr7.h = false ∧ TlbTestSet (cpu .p) ∧ TlbTestSet doubleTlb ∧ doubleTlb.core.cpl = 0 ∧
    doubleTlb.core.cr0.getLsbD 31 = true ∧ 0 ∈ tlbCandidates .pmmx .code 0x400 ∧
    31 ∈ tlbCandidates .pmmx .code 0x400 ∧ tlbMatch .code (doubleTlb.tlbs.entry .code 0) 0x400 = true ∧
    tlbMatch .code (doubleTlb.tlbs.entry .code 31) 0x400 = true ∧ 63 ∈ tlbCandidates .pmmx .data4K 0x400 ∧
    tlbMatch .data4K (doubleTlb.tlbs.entry .data4K 0) 0x400 = true ∧
    tlbMatch .data4K (doubleTlb.tlbs.entry .data4K 63) 0x400 = true := by decide

/-- On `P` the first and the last entry of the 4-Mbyte TLB hold one page. -/
def double4M : State := paged (withTlb .p [] [] [(0, pageEntry 0x400 true), (7, pageEntry 0x400 true)])

theorem witness_TlbRefusals_P :
    double4M.cfg.variant = .p ∧ double4M.core.cr0.getLsbD 31 = true ∧
    0 ∈ tlbCandidates .p .data4M 0x7FF ∧ 7 ∈ tlbCandidates .p .data4M 0x7FF ∧
    tlbMatch .data4M (double4M.tlbs.entry .data4M 0) 0x7FF = true ∧
    tlbMatch .data4M (double4M.tlbs.entry .data4M 7) 0x7FF = true := by decide

/-- On `PMMX` the last entry of each TLB holds a page. -/
def lastEntries : State :=
  withTlb .pmmx [(31, pageEntry 0x400 false)] [(63, pageEntry 0x400 true)] []

theorem witness_CodeTlbRead :
    lastEntries.core.cpl = 0 ∧ TlbTestSet lastEntries ∧ 31 ∈ tlbCandidates .pmmx .code 0x400 ∧
    (lastEntries.tlbs.entry .code 31).v = true ∧ (lastEntries.tlbs.entry .code 31).lpn = 0x400 ∧
    (∀ j ∈ tlbCandidates .pmmx .code 0x400, j ≠ 31 → tlbMatch .code (lastEntries.tlbs.entry .code j) 0x400 = false) ∧
    (lastEntries.tlbs.entry .code 31).badTag = false ∧ (lastEntries.tlbs.entry .code 31).badData = false ∧
    (∀ k ∈ tlbCandidates .pmmx .code 0x401, tlbMatch .code (lastEntries.tlbs.entry .code k) 0x401 = false) := by
  decide

/-- The 4-Mbyte page answers a page of its range. -/
theorem witness_DataTlbRead :
    63 ∈ tlbCandidates .pmmx .data4K 0x7FF ∧ (lastEntries.tlbs.entry .data4K 63).v = true ∧
    (lastEntries.tlbs.entry .data4K 63).ps = true ∧ (0x400#20).toNat / 2 ^ 10 = (0x7FF#20).toNat / 2 ^ 10 ∧
    (∀ j ∈ tlbCandidates .pmmx .data4K 0x7FF, j ≠ 63 →
      tlbMatch .data4K (lastEntries.tlbs.entry .data4K j) 0x7FF = false) ∧
    (lastEntries.tlbs.entry .data4K 63).badTag = false ∧ (lastEntries.tlbs.entry .data4K 63).badData = false ∧
    (∀ k ∈ tlbCandidates .pmmx .data4K 0x800, tlbMatch .data4K (lastEntries.tlbs.entry .data4K k) 0x800 = false) := by
  decide

/-- On `P` way 0 of every set of the code TLB holds a page. -/
def way0 (e : TlbEntry) : State := withTlb .p ((List.range 8).map fun k => (4 * k, e)) [] []

/-- A set of `way0` has the page in way 0 and nothing in the other ways. -/
theorem way0_entry (e : TlbEntry) (set : Fin 8) (w : Fin 4) :
    (way0 e).tlbs.entry .code (set.val * 4 + w.val) = if w = 0 then e else TlbEntry.empty := by
  fin_cases set <;> fin_cases w <;> rfl

/-- On `P`: a page of the code TLB in way 0 of its set. -/
theorem witness_CodeTlbRead_P (la : BitVec 20) :
    ∃ k, (way0 (pageEntry la false)).core.cpl = 0 ∧ TlbTestSet (way0 (pageEntry la false)) ∧
      k ∈ tlbCandidates .p .code la ∧ (way0 (pageEntry la false)).tlbs.entry .code k = pageEntry la false ∧
      (∀ j ∈ tlbCandidates .p .code la, j ≠ k →
        tlbMatch .code ((way0 (pageEntry la false)).tlbs.entry .code j) la = false) := by
  have set : tlbSet .code la < 8 := Nat.mod_lt _ (by decide)
  refine ⟨tlbSet .code la * 4 + 0, rfl, rfl, List.mem_map.mpr ⟨0, by decide, rfl⟩, way0_entry _ ⟨_, set⟩ 0,
    fun j hj hk => ?_⟩
  obtain ⟨w, hw, rfl⟩ := List.mem_map.mp hj
  have e := way0_entry (pageEntry la false) ⟨_, set⟩ ⟨w, List.mem_range.mp hw⟩
  have h : (⟨w, List.mem_range.mp hw⟩ : Fin 4) ≠ 0 := fun h => hk (by rw [show w = 0 from congrArg Fin.val h])
  rw [if_neg h] at e
  simp only at e
  rw [e]
  rfl

/-- On `P`: a page in the last entry of the 4-Kbyte TLB alone; and a 4-Mbyte page in the last entry of its TLB, in whose
range the 4-Kbyte TLB has a page too. -/
theorem witness_DataTlbRead_P :
    let s := withTlb .p [] [(63, pageEntry 0x400 false)] []
    let t := withTlb .p [] [(0, pageEntry 0x401 false)] [(7, pageEntry 0x400 true)]
    TlbTestSet s ∧ TlbTestSet t ∧ 63 ∈ tlbCandidates .p .data4K 0x400 ∧
    (∀ j ∈ tlbCandidates .p .data4K 0x400, j ≠ 63 → tlbMatch .data4K (s.tlbs.entry .data4K j) 0x400 = false) ∧
    (∀ j ∈ tlbCandidates .p .data4M 0x400, tlbMatch .data4M (s.tlbs.entry .data4M j) 0x400 = false) ∧
    7 ∈ tlbCandidates .p .data4M 0x401 ∧
    (∀ j ∈ tlbCandidates .p .data4M 0x401, j ≠ 7 → tlbMatch .data4M (t.tlbs.entry .data4M j) 0x401 = false) ∧
    (∀ i ∈ tlbCandidates .p .data4K 0x401, ∀ j ∈ tlbCandidates .p .data4K 0x401,
      tlbMatch .data4K (t.tlbs.entry .data4K i) 0x401 = true →
      tlbMatch .data4K (t.tlbs.entry .data4K j) 0x401 = true → i = j) := by
  refine ⟨rfl, rfl, by decide, by decide, by decide, by decide, by decide, ?_⟩
  have only : ∀ i ∈ tlbCandidates .p .data4K 0x401, i ≠ 0 → tlbMatch .data4K
      ((withTlb .p [] [(0, pageEntry 0x401 false)] [(7, pageEntry 0x400 true)]).tlbs.entry .data4K i) 0x401 = false := by
    decide
  intro i hi j hj mi mj
  by_cases h : i = 0 <;> by_cases h' : j = 0 <;> simp_all

/-- On `P` a 4-Mbyte entry is found through its own TLB wherever it stands (rule R227). -/
theorem test_search_4M :
    (List.range 8).all (fun k => searchData .p (withTlb .p [] [] [(k, pageEntry 0x400 true)]).tlbs 0x7FF ==
      .hit .data4M k) = true := by decide

/-- The last entries with a bad tag in the code TLB and bad data in the data TLB. -/
def badEntries (ns : BitVec 13) : State :=
  (withTlb .pmmx [(31, { pageEntry 0x400 false with badTag := true })]
    [(63, { pageEntry 0x400 true with badData := true })] []).withParity ⟨false, ns, false, false⟩

theorem witness_TlbBadParityIsReported :
    (badEntries 1).core.cpl = 0 ∧ TlbTestSet (badEntries 1) ∧
    ((badEntries 1).tlbs.entry .code 31).badTag = true ∧ ((badEntries 1).tlbs.entry .data4K 63).badData = true ∧
    searchCode .pmmx (badEntries 1).tlbs 0x400 = .hit .code 31 ∧
    searchData .pmmx (badEntries 1).tlbs 0x7FF = .hit .data4K 63 ∧
    (badEntries 1).parity.bit 1 = true ∧ (badEntries 0).parity.bit 1 = false := by decide

theorem witness_TlbWriteThenRead :
    beforeV45.cfg.variant = .pmmx ∧ beforeV45.core.cpl = 0 ∧ TlbTestSet beforeV45 ∧ beforeV45.tlbTest.tr7.h = true ∧
    beforeV45.parity.bit 7 = false ∧ beforeV45.parity.bit 8 = false ∧ beforeV45.parity.bit 11 = false ∧
    beforeV45.parity.bit 12 = false ∧ (0xBFF#20).toNat / 2 ^ 10 = (0x800#20).toNat / 2 ^ 10 := by decide

theorem witness_TlbWriteThenRead_others (n : TlbName) (j : Nat) (la : BitVec 20) :
    tlbMatch n (beforeV45.tlbs.entry n j) la = false := by cases n <;> rfl

/-! ### Witnesses: BTB -/

theorem witness_BtbTest :
    (btbCpu .p).core.cpl = 0 ∧ BtbTestSet (btbCpu .p) ∧ tr11Fits .p 0 63 0 = true ∧ (btbCpu .pmmx).core.cpl = 0 ∧
    BtbTestSet (btbCpu .pmmx) ∧ tr11Fits .pmmx 3 15 3 = true ∧ (btbCpu .p).cfg.variant = .p ∧
    (btbCpu .pmmx).cfg.variant = .pmmx ∧ (15#6).toNat < 16 := by decide

/-- For the flush of TR11 and the load of CR3; and a privilege level where that load faults. -/
theorem witness_FlushesClearValidBits_p : (btbCpu .p).Canonical ∧ (user (btbCpu .p)).core.cpl ≠ 0 :=
  ⟨by decide, by decide⟩

theorem witness_FlushesClearValidBits_pmmx : (btbCpu .pmmx).Canonical ∧ (user (btbCpu .pmmx)).core.cpl ≠ 0 :=
  ⟨by decide, by decide⟩

/-- V60a and rule R478: a load of CR3 clears the valid bit of an entry, and at CPL 3 it faults. -/
theorem test_loadCr3 :
    got (fun t => ((t.btbEntry 3 1 1).valid, (t.btbEntry 3 1 1).tag, t.core.cr3))
      (agentMove (.loadCr3 0x1000) ((btbCpu .pmmx).putBtbEntry 3 1 1 { BtbEntry.empty with valid := true, tag := 5 })) =
      some (false, 5, 0x1000) ∧
    faultOf (agentMove (.loadCr3 0) (user (cpu .p))) = some (.raised 13 (some 0) 0xFFF0) := by decide

/-- The entry of V52. -/
def entryV52 : BtbEntry := ⟨0x004012, 3, 0x00402000, true, 2, true, 2⟩

/-- No way holds the tag; or way 2 does, and is valid. -/
theorem witness_BtbWritePmmx :
    entryV52.tag.toNat = beforeV52.btbTest.tr9.toNat / 2 ^ 8 ∧
    entryV52.offset.toNat = beforeV52.btbTest.tr9.toNat / 2 ^ 6 % 4 ∧
    entryV52.valid = beforeV52.btbTest.tr9.getLsbD 5 ∧ entryV52.prediction = beforeV52.btbTest.tr9.getLsbD 4 ∧
    entryV52.history.toNat = beforeV52.btbTest.tr9.toNat % 16 ∧ entryV52.target = beforeV52.btbTest.tr10 ∧
    entryV52.btype = 2 ∧ [0#2, 2, 3].all (fun x => (beforeV52.btbEntry 3 x 1).tag != entryV52.tag) = true ∧
    ((beforeV52.putBtbEntry 3 2 1 entryV52).btbEntry 3 2 1).tag = entryV52.tag ∧
    ((beforeV52.putBtbEntry 3 2 1 entryV52).btbEntry 3 2 1).valid = true := by decide

/-- Another way is valid with another tag; or with the tag of TR9. -/
theorem witness_BtbWriteP :
    (((btbCpu .p).putBtbEntry 3 2 0 entryV52).btbEntry 3 2 0).valid = true ∧
    (((btbCpu .p).putBtbEntry 3 2 0 entryV52).btbEntry 3 2 0).tag.toNat ≠ (btbCpu .p).btbTest.tr9.toNat / 2 ^ 6 ∧
    (((btbCpu .p).putBtbEntry 3 2 0 { entryV52 with tag := 0 }).btbEntry 3 2 0).valid = true ∧
    (((btbCpu .p).putBtbEntry 3 2 0 { entryV52 with tag := 0 }).btbEntry 3 2 0).tag.toNat =
      (btbCpu .p).btbTest.tr9.toNat / 2 ^ 6 := by decide

theorem witness_BtbWriteThenRead :
    [0#2, 2, 3].all (fun z => (beforeV52.btbEntry 3 z 1).tag.toNat != beforeV52.btbTest.tr9.toNat / 2 ^ 8) = true := by
  decide

/-! ### Witnesses: clocks and agents -/

/-- Counter 0 disabled, by CC = 0 and at CPL 3; counting clocks; counting events 22, 23, 48, 6, 18 and 20, at CPL 0. -/
theorem witness_ClockTick :
    cesrCc (Config.suggested .p) 0 0 = 0 ∧ counterEnabled (cesrCc (Config.suggested .p) 0x56 0) 3 = false ∧
    counterEnabled (cesrCc (Config.suggested .p) 0x140 0) 0 = true ∧
    (cesrCc (Config.suggested .p) 0x140 0).getLsbD 2 = true ∧
    [0x56#32, 0x57, 0x70, 0x46, 0x52, 0x54].map (fun x => (cesrEs (Config.suggested .pmmx) x 0,
      cesrCc (Config.suggested .pmmx) x 0, (eventOf .pmmx (cesrEs (Config.suggested .pmmx) x 0) 0).isSome)) =
      [(22, 1, true), (23, 1, true), (48, 1, true), (6, 1, true), (18, 1, true), (20, 1, true)] ∧
    counterEnabled 1 0 = true ∧ (1#3).getLsbD 2 = false := by decide

/-- The pipe of reset and a full one; enough clocks; counter 0 counting event 37 at CPL 0. -/
theorem witness_PinsLagCounters :
    (clockEnv (cpu .p)).pins = .performanceMonitoring ∧ (cpu .p).perf.pipe.length ≤ (clockEnv (cpu .p)).cfg.pmPinLag ∧
    (List.replicate 5 (true, false)).length ≤ (clockEnv (cpu .p)).cfg.pmPinLag ∧
    0 + (clockEnv (cpu .p)).cfg.pmPinLag + 1 ≤ [none, none, none, none, none, some Occurrence.instruction].length ∧
    counterEnabled (cesrCc (Config.suggested .p) 0x65 0) 0 = true ∧
    (cesrCc (Config.suggested .p) 0x65 0).getLsbD 2 = false ∧ cesrEs (Config.suggested .p) 0x65 0 = 37 := by
  decide

/-- A machine with one line: another key holds an invalid line. -/
theorem withLines_modified {l : CodeLine} {d : DataLine} {k : Nat}
    (h : ((withLines l d).caches.dataLine k).state = .modified) : k = 511 := by
  by_contra hk
  have e : (withLines l d).caches.dataLine k = DataLine.empty := if_neg (Ne.symm hk)
  rw [e] at h
  cases h

/-- One modified line, of good parity. -/
theorem witness_FlushPinWritesBack :
    (goodLines.caches.dataLine 511).state = .modified ∧
    (∀ k, (goodLines.caches.dataLine k).state = .modified → (goodLines.caches.dataLine k).GoodParity) ∧
    (∀ j k, (goodLines.caches.dataLine j).state = .modified → (goodLines.caches.dataLine k).state = .modified → j = k) :=
  ⟨by decide, fun k h => by rw [withLines_modified h]; exact ⟨rfl, by decide⟩,
    fun _ _ hj hk => (withLines_modified hj).trans (withLines_modified hk).symm⟩

/-- A modified line whose tag is bad, with NS = 0 and with NS = 1. -/
def badModified (ns : BitVec 13) : State :=
  (withLines { CodeLine.empty with valid := true } { DataLine.empty with state := .modified, badTag := true }).withParity
    ⟨false, ns, false, false⟩

theorem witness_FlushPinWritesBack_bad :
    ((badModified 0).caches.dataLine 511).state = .modified ∧ ¬((badModified 0).caches.dataLine 511).GoodParity ∧
    (badModified 0).parity.bit 1 = false ∧ (badModified 1).parity.bit 1 = true :=
  ⟨by decide, fun h => absurd h.1 (by decide), by decide, by decide⟩

/-- P9: a flushed line of bad tag parity reports nothing when a fill replaces it; a valid one does (log 26). -/
theorem test_fill_over_bad_tag :
    [Mesi.invalid, .shared].map (fun x => got (fun t => (t.parity.pes, t.run, (t.caches.dataLine 511).tag))
      (agentMove (.fillData 127 3 5 (Vector.replicate 8 0) .shared false)
        (((badModified 0).withCaches ⟨[], [], [(511, { DataLine.empty with state := x, badTag := true })], []⟩).withCore
          { (badModified 0).core with cr0 := 0 }))) =
      [some (false, .running, 5), some (true, .shutdown, 0)] := by decide

theorem witness_FlushPinWritesBack_badCanonical : (badModified 0).Canonical ∧ (badModified 1).Canonical :=
  ⟨by decide, by decide⟩

theorem witness_FlushPinWritesBack_canonical : goodLines.Canonical := by decide

/-- A valid line in one cache alone, at FFFFFFE0h: a good line of the code cache, a modified one of the data cache. -/
theorem witness_InternalSnooping :
    (let s := withLines { CodeLine.empty with tag := 0xFFFFF, valid := true } DataLine.empty
     s.cfg.cacheTagBits = 20 ∧ dataHits 0xFFFFFFE0 s = [] ∧ codeHits 0xFFFFFFE0 s = [511] ∧
     (s.caches.codeLine 511).badTag = false) ∧
    (let s := withLines CodeLine.empty { DataLine.empty with tag := 0xFFFFF, state := .modified }
     codeHits 0xFFFFFFE0 s = [] ∧ dataHits 0xFFFFFFE0 s = [511] ∧ (s.caches.dataLine 511).state = .modified ∧
     (s.caches.dataLine 511).GoodParity) := by
  decide

/-- Two lines of one address in each cache. -/
theorem witness_InternalSnooping_double :
    let s := (cpu .pmmx).withCaches
      ⟨[(508, { CodeLine.empty with valid := true }), (511, { CodeLine.empty with valid := true })], [],
        [(508, { DataLine.empty with state := .shared }), (511, { DataLine.empty with state := .exclusive })], []⟩
    2 ≤ (dataHits 0xFE0 s).length ∧ 2 ≤ (codeHits 0xFE0 s).length := by decide

theorem witness_FillsAndAllocationsInhibited :
    ((cpu .p).withTr12 8).tr12.getLsbD 3 = true ∧ (cpu .p).core.cr0.getLsbD 30 = true ∧
    (cpu .pmmx).cfg.variant = .pmmx ∧ ((cpu .pmmx).withTr12 0x80000).tr12.getLsbD 19 = true ∧
    ((cpu .pmmx).withTr12 0x100000).tr12.getLsbD 20 = true ∧ (btbCpu .p).tr12.getLsbD 0 = true := by decide

/-- The core of a running and of a halted machine and the agent FLUSH# have the turn; an error is pending, with NS = 0
and with NS = 1. -/
theorem witness_MicrocodeParityError :
    (cpu .p).run ≠ .shutdown ∧ (cpu .p).nextTurn ≠ .agent .reset ∧ (cpu .p).parity.mcBadPending = false ∧
    CoreTurn (cpu .p) ∧ ((cpu .p).withRun .halted).run ≠ .shutdown ∧
    ((cpu .p).withAgenda [.agent .flush]).nextTurn ≠ .agent .reset ∧
    ((cpu .p).withParity ⟨false, 0, true, true⟩).parity.mcBadPending = true ∧
    ((cpu .p).withParity ⟨false, 0, true, true⟩).parity.bit 1 = false ∧
    ((cpu .p).withParity ⟨false, 1, true, true⟩).parity.bit 1 = true :=
  ⟨by decide, nofun, rfl, .inl rfl, by decide, nofun, rfl, by decide, by decide⟩

theorem witness_MachineCheckLatches :
    (withCr4 .p 0 0).core.cr4.getLsbD 6 = false ∧ (withCr4 .p 0x40 3).core.cr4.getLsbD 6 = true := by decide

end Sys2Proof.Tests
end

/-!
PROOF. All a step can do, said once: a step is a sequence of elementary updates (`step_updates`), each with the guard
under which it happens. An invariant of the machine's data is then a case split over `Update`. The configuration, code
memory and the pins are the first one (O9).
-/

namespace Sys2Proof.Machine

/-- `t` agrees with `s` in every part that an invariant of the machine's data speaks of. -/
structure SameData (s t : State) : Prop where
  cfg : t.cfg = s.cfg
  code : t.code = s.code
  pins : t.pins = s.pins
  tr4 : t.cacheTest.tr4 = s.cacheTest.tr4
  tr5 : t.cacheTest.tr5 = s.cacheTest.tr5
  tr7 : t.tlbTest.tr7 = s.tlbTest.tr7
  tr9 : t.btbTest.tr9 = s.btbTest.tr9
  tr11 : t.btbTest.tr11 = s.btbTest.tr11
  tr12 : t.tr12 = s.tr12
  caches : t.caches = s.caches
  tlbs : t.tlbs = s.tlbs
  btb : t.btb = s.btb
  mem : t.mem = s.mem

/-- Where the tag of a cache line that is stored comes from. -/
inductive TagSource (s : State) : BitVec 23 → Prop
  | tr4 : TagSource s s.cacheTest.tr4.tag
  | clipped (x : BitVec 23) : TagSource s (clipTag s.cfg x)
  | codeLine (k : Nat) : TagSource s (s.caches.codeLine k).tag
  | dataLine (k : Nat) : TagSource s (s.caches.dataLine k).tag

/-- Where a value of TR4 comes from: a write or FLUSH#, or a testability read (rules R187, R192, R473). -/
inductive Tr4Source (s : State) : Tr4 → Prop
  | kept : Tr4Source s s.cacheTest.tr4
  | unpacked (v : Quad) : Tr4Source s (unpackTr4 s.cfg v)
  | codeLine (k : Nat) (set : BitVec 7) (lru : BitVec 3) (valid : BitVec 2)
      (h : lru = s.caches.codeLru set ∨ ∃ x, lru = clipLru s.cfg.variant x) :
      Tr4Source s ⟨(s.caches.codeLine k).tag, lru, valid⟩
  | dataLine (k : Nat) (set : BitVec 7) (valid : BitVec 2) :
      Tr4Source s ⟨(s.caches.dataLine k).tag, s.caches.dataLru set, valid⟩

/-- Where a value of TR5 comes from: a write, whose entry fits the variant, or FLUSH# (rules R36, R473). -/
inductive Tr5Source (s : State) : Tr5 → Prop
  | kept : Tr5Source s s.cacheTest.tr5
  | unpacked (v : Quad) : Tr5Source s (unpackTr5 s.cfg v)
  | latched (f : Tr5) (h : entryFits s.cfg.variant f.entry = true) : Tr5Source s f

/-- Where a value of TR7 comes from: a write or a TLB read, which gives the entry pointer the variant's width and on
`PMMX` keeps the LRU bits (rules R223, R226, R227). -/
inductive Tr7Source (s : State) : Tr7 → Prop
  | kept : Tr7Source s s.tlbTest.tr7
  | unpacked (v : Quad) : Tr7Source s (unpackTr7 s.cfg v)
  | read (f : Tr7) (entry : s.cfg.variant = .p → f.entry.toNat < 4)
      (lru : s.cfg.variant = .pmmx → f.lru = s.tlbTest.tr7.lru) : Tr7Source s f

/-- One elementary change a step can make, with the guard under which it makes it: the bits, ways, sets and tags it may
store, so that the case split over `Update` has what an invariant needs. -/
inductive Update (s : State) : State → Prop
  | elsewhere {t : State} (h : SameData s t) : Update s t
  | reset : Update s s.afterReset
  | storeByte (a : Word) (b : Byte) : Update s (s.withMem (writeByte s.mem a.toNat b))
  | storeLine (tag : BitVec 23) (set : BitVec 7) (d : LineData) :
      Update s (s.withMem (writeLine s.mem (lineAddress s.cfg tag set) d))
  | cacheTest (x : CacheTest) (h4 : Tr4Source s x.tr4) (h5 : Tr5Source s x.tr5) : Update s (s.withCacheTest x)
  | tlbTest (x : TlbTest) (h : Tr7Source s x.tr7) : Update s (s.withTlbTest x)
  | tr9 (v : Quad) (h : hasReservedOne s.cfg .tr9 v = false) : Update s (writeTr9 v s)
  | latchTr11 (f : Tr11) : Update s (s.latchTr11 f)
  | btbReadData (f : Tr11) : Update s (btbReadData f s)
  | btbReadTag (f : Tr11) (h : s.cfg.variant = .pmmx) : Update s (btbReadTag f s)
  | tr12 (v : Quad) (h : hasReservedOne s.cfg .tr12 v = false) : Update s (s.withTr12 v)
  | codeLine {k : Nat} {set : BitVec 7} (hk : k ∈ wayKeys s.cfg.variant set) (l : CodeLine) (h : TagSource s l.tag) :
      Update s (s.withCaches (s.caches.putCode k l))
  | dataLine {k : Nat} {set : BitVec 7} (hk : k ∈ wayKeys s.cfg.variant set) (l : DataLine) (h : TagSource s l.tag) :
      Update s (s.withCaches (s.caches.putData k l))
  | codeLru (set : BitVec 7) (x : BitVec 3) :
      Update s (s.withCaches (s.caches.putCodeLru set (clipLru s.cfg.variant x)))
  | dataLru (set : BitVec 7) (x : BitVec 3) :
      Update s (s.withCaches (s.caches.putDataLru set (clipLru s.cfg.variant x)))
  | flushCode : Update s (s.withCaches s.caches.flushCode)
  | flushData : Update s (s.withCaches s.caches.flushData)
  | tlbEntry (n : TlbName) (la : BitVec 20) (entry : BitVec 6) (e : TlbEntry) (hn : tlbOf s.cfg.variant n = n) :
      Update s (s.withTlbs (s.tlbs.putEntry n (tlbKey s.cfg.variant n la entry) e))
  | tlbLru (n : TlbName) (set : Nat) (x : BitVec 3) (h : set < tlbSets n) :
      Update s (s.withTlbs (s.tlbs.putLru n set x))
  | flushTlbs : Update s (s.withTlbs s.tlbs.flush)
  | btbAllocate (set : BitVec 6) (bank way : BitVec 2) (e : BtbEntry) : Update s (btbAllocateMove set bank way e s)
  | btbRelease (set : BitVec 6) (bank way : BitVec 2) : Update s (btbReleaseMove set bank way s)
  | btbStorePmmx (f : Tr11) (way : BitVec 2) (hv : s.cfg.variant = .pmmx)
      (hs : f.set.toNat < Variant.btbSets .pmmx) : Update s (s.putBtbEntry f.set way f.bank (btbEntryPmmx f s))
  | btbStoreP (f : Tr11) (hv : s.cfg.variant = .p) :
      Update s (s.putBtbEntry f.set f.way f.bank (btbEntryP (s.btbEntry f.set f.way f.bank) s))
  | flushBtb : Update s (s.withBtb (flushBtb s.btb))

/-- Any number of elementary changes, one after the other. -/
abbrev Updates : State → State → Prop := Relation.ReflTransGen Update

/-! ### What every update keeps -/

/-- The configuration and code memory stay, and the pins stay with or come to performance monitoring (D1; rules R80,
R338). -/
theorem Update.setup {s t : State} (h : Update s t) :
    t.cfg = s.cfg ∧ t.code = s.code ∧ (s.pins = .performanceMonitoring → t.pins = .performanceMonitoring) := by
  cases h
  case elsewhere h => exact ⟨h.cfg, h.code, fun hp => h.pins.trans hp⟩
  case reset => exact ⟨rfl, rfl, fun _ => rfl⟩
  case btbAllocate => unfold btbAllocateMove; split <;> exact ⟨rfl, rfl, id⟩
  case btbRelease => unfold btbReleaseMove; split <;> exact ⟨rfl, rfl, id⟩
  all_goals exact ⟨rfl, rfl, id⟩

theorem Updates.setup {s t : State} (h : Updates s t) :
    t.cfg = s.cfg ∧ t.code = s.code ∧ (s.pins = .performanceMonitoring → t.pins = .performanceMonitoring) := by
  induction h with
  | refl => exact ⟨rfl, rfl, id⟩
  | tail _ last ih =>
    obtain ⟨cfg, code, pins⟩ := ih
    obtain ⟨cfg', code', pins'⟩ := last.setup
    exact ⟨cfg'.trans cfg, code'.trans code, pins' ∘ pins⟩

theorem Updates.cfg {s t : State} (h : Updates s t) : t.cfg = s.cfg := h.setup.1

/-! Updates composed, under names that keep the type `Updates` for the next link of a chain. -/

theorem Update.once {s t : State} (h : Update s t) : Updates s t := .single h

theorem Updates.andThen {s t u : State} (h : Updates s t) (k : Update t u) : Updates s u := h.tail k

theorem Updates.trans {s t u : State} (h : Updates s t) (k : Updates t u) : Updates s u :=
  Relation.ReflTransGen.trans h k

theorem Updates.elsewhere {s t u : State} (h : Updates s t) (k : SameData t u) : Updates s u := h.andThen (.elsewhere k)

theorem SameData.updates {s t : State} (h : SameData s t) : Updates s t := .single (.elsewhere h)

/-! ### Shared operations -/

theorem parityError_sameData (s : State) : SameData s (parityError s) := by constructor <;> simp

theorem beforeInstruction_sameData (s : State) : SameData s (beforeInstruction s) := by constructor <;> rfl

theorem afterInstruction_sameData (d : Nat) (s : State) : SameData s (afterInstruction d s) := by constructor <;> rfl

theorem idleClocks_sameData (s : State) : SameData s (idleClocks s) := by constructor <;> rfl

theorem drainClocks_sameData (s : State) (n : Nat) : SameData s (s.drainClocks n) := by constructor <;> rfl

theorem advance_sameData (s : State) (n : Nat) : SameData s (s.advance n) := by constructor <;> rfl

theorem useDraws_sameData (s : State) (n : Nat) : SameData s (s.useDraws n) := by constructor <;> rfl

theorem result_sameData (s : State) (v : Quad) : SameData s (s.result v) := by constructor <;> rfl

theorem withCore_sameData (s : State) (x : Core) : SameData s (s.withCore x) := by constructor <;> rfl

theorem withParity_sameData (s : State) (x : Parity) : SameData s (s.withParity x) := by constructor <;> rfl

theorem withPerf_sameData (s : State) (x : Perf) : SameData s (s.withPerf x) := by constructor <;> rfl

theorem withTlbSequence_sameData (s : State) (x : TlbSequence) : SameData s (s.withTlbSequence x) := by
  constructor <;> rfl

theorem microcodeCheck_sameData (s : State) : SameData s (microcodeCheck s) := by
  unfold microcodeCheck
  split
  · split <;> constructor <;> simp
  · constructor <;> rfl

theorem checkParity_updates {bad : Bool} {s : State} {k : State → State}
    (h : ∀ u, u.cfg = s.cfg → Updates u (k u)) : Updates s (checkParity bad s k) := by
  rcases checkParity_cases bad s k with ⟨-, e⟩ | ⟨-, -, e⟩ | ⟨-, -, e⟩ <;> rw [e]
  · exact h s rfl
  · exact (parityError_sameData s).updates.trans (h _ (parityError_cfg s))
  · exact (parityError_sameData s).updates

theorem writeback_updates (l : DataLine) (set : BitVec 7) (s : State) : Updates s (writeback l set s) :=
  (Update.storeLine l.tag set l.data).once.elsewhere (by constructor <;> rfl)

theorem mem_wayKeys_cacheWay (v : Variant) (set : BitVec 7) (e : BitVec 2) :
    lineKey set (cacheWay v e) ∈ wayKeys v set :=
  List.mem_map.mpr ⟨_, List.mem_range.mpr (cacheWay_lt v e), rfl⟩

theorem invalidateDataLine_updates {k : Nat} {set : BitVec 7} {s : State} (hk : k ∈ wayKeys s.cfg.variant set)
    (a : BitVec 7) : Updates s (invalidateDataLine k a s) := by
  unfold invalidateDataLine
  dsimp only
  split
  · exact (writeback_updates _ a s).andThen (.dataLine (s := writeback _ a s) hk _ (by exact .dataLine k))
  · exact .single (.dataLine hk _ (by exact .dataLine k))

theorem invalidateCodeLine_updates {k : Nat} {set : BitVec 7} {s : State} (hk : k ∈ wayKeys s.cfg.variant set) :
    Updates s (invalidateCodeLine k s) := .single (.codeLine hk _ (by exact .codeLine k))

/-! ### Outcomes -/

/-- Every next state of an outcome is reached by updates. -/
def Reaches (s : State) (r : Result) : Prop := ∀ t, r = .next t → Updates s t

theorem reaches_next {s t : State} (h : Updates s t) : Reaches s (.next t) := by
  rintro _ ⟨⟩
  exact h

theorem reaches_fault (s : State) (f : Fault) : Reaches s (.fault f) := by
  rintro _ ⟨⟩

theorem reaches_refused (s : State) (r : Refusal) : Reaches s (.refused r) := by
  rintro _ ⟨⟩

theorem Reaches.of_sameData {s u : State} {r : Result} (h : Reaches u r) (k : SameData s u) : Reaches s r :=
  fun t ht => k.updates.trans (h t ht)

theorem reaches_privileged {s u : State} {k : Result} (h : Reaches s k) : Reaches s (privileged u k) :=
  fun t ht => h t (privileged_next.mp ht).2

theorem reaches_noReservedOnes {m : Msr} {v : Quad} {s u : State} {k : Result} (h : Reaches s k) :
    Reaches s (noReservedOnes m v u k) := fun t ht => h t (noReservedOnes_next.mp ht).2

theorem reaches_reservedAccess (s : State) (n : Word) (w : Bool) : Reaches s (reservedAccess n w s) :=
  fun _ ht => absurd ht reservedAccess_next

/-! ### RDMSR and WRMSR -/

theorem readMsr_reaches (v : State → Quad) (s : State) : Reaches s (readMsr v s) :=
  reaches_privileged (reaches_next (result_sameData s _).updates)

theorem readMsrMasked_reaches (mask v : State → Quad) (s : State) : Reaches s (readMsrMasked mask v s) :=
  reaches_privileged (reaches_next ((result_sameData s _).updates.elsewhere (useDraws_sameData _ 1)))

theorem rdmsrOf_reaches (s : State) (m : Msr) : Reaches s (rdmsrOf s m) := by
  cases m with
  | mca | mct =>
    exact reaches_privileged (reaches_next ((result_sameData s _).updates.elsewhere (useDraws_sameData _ 1)))
  | tsc | ctr0 | ctr1 =>
    simp only [rdmsrOf, execRdmsrTsc, execRdmsrCtr0, execRdmsrCtr1]
    exact readMsr_reaches _ s
  | tr2 =>
    simp only [rdmsrOf, execRdmsrTr2]
    split
    · exact readMsrMasked_reaches _ _ s
    · exact reaches_privileged (reaches_reservedAccess s _ _)
  | tr1 | tr3 | tr4 | tr5 | tr6 | tr7 | tr9 | tr10 | tr11 | tr12 | cesr =>
    simp only [rdmsrOf, execRdmsrTr1, execRdmsrTr3, execRdmsrTr4, execRdmsrTr5, execRdmsrTr6, execRdmsrTr7,
      execRdmsrTr9, execRdmsrTr10, execRdmsrTr11, execRdmsrTr12, execRdmsrCesr]
    exact readMsrMasked_reaches _ _ s

/-- A write reaches its next state if its effect does, on a value with no one in a reserved bit. -/
theorem writeMsr_reaches {m : Msr} {pre : State → Bool} {effect : Quad → State → State} {s : State}
    (h : hasReservedOne s.cfg m s.core.edxEax = false → Updates s (effect s.core.edxEax s)) :
    Reaches s (writeMsr m pre effect s) := by
  intro t ht
  obtain ⟨-, hv, -, rfl⟩ := writeMsr_next.mp ht
  exact (h hv).elsewhere (advance_sameData _ 2)

/-! ### The commands of TR5 -/

theorem latchTr5_update {f : Tr5} {s : State} (h : entryFits s.cfg.variant f.entry = true) :
    Update s (s.latchTr5 f) := .cacheTest _ .kept (.latched f h)

theorem tr5Access_reaches {f : Tr5} {command : State → State} {s : State}
    (h : ∀ u, Updates u (command u)) : Reaches s (tr5Access f command s) := by
  intro t ht
  obtain ⟨-, hf, -, rfl⟩ := tr5Access_next.mp ht
  exact (h _).head (latchTr5_update hf)

theorem writeCodeLine_updates (f : Tr5) (s : State) : Updates s (writeCodeLine f s) :=
  have line : Update s (s.withCaches (s.caches.putCode (tr5Key f s)
      (codeLineToWrite s (s.caches.codeLine (tr5Key f s))))) :=
    .codeLine (mem_wayKeys_cacheWay _ f.set f.entry) _ .tr4
  (line.once.andThen (.codeLru f.set s.cacheTest.tr4.lru)).elsewhere (by constructor <;> rfl)

theorem writeDataLine_updates (f : Tr5) (s : State) : Updates s (writeDataLine f s) :=
  have line : Update s (s.withCaches (s.caches.putData (tr5Key f s) (dataLineToWrite f s))) :=
    .dataLine (mem_wayKeys_cacheWay _ f.set f.entry) _ .tr4
  (line.once.andThen (.dataLru f.set s.cacheTest.tr4.lru)).elsewhere (by constructor <;> rfl)

theorem deliverCodeLine_updates (f : Tr5) (s : State) : Updates s (deliverCodeLine f s) := by
  have read : Update s (s.withCacheTest { s.cacheTest with tr4 := (deliverCodeLine f s).cacheTest.tr4 }) := by
    refine .cacheTest _ (.codeLine (tr5Key f s) f.set _ _ ?_) .kept
    split
    · exact .inr ⟨_, rfl⟩
    · exact .inl rfl
  exact (read.once.andThen (.codeLru f.set (s.freeBits 3 3))).elsewhere (by constructor <;> rfl)

theorem deliverDataLine_updates (f : Tr5) (s : State) : Updates s (deliverDataLine f s) :=
  have read : Update s (s.withCacheTest { s.cacheTest with tr4 := (deliverDataLine f s).cacheTest.tr4 }) :=
    .cacheTest _ (.dataLine (tr5Key f s) f.set _) .kept
  read.once.elsewhere (by constructor <;> rfl)

theorem readCodeLine_updates (f : Tr5) (s : State) : Updates s (readCodeLine f s) :=
  (checkParity_updates fun u _ => deliverCodeLine_updates f u).elsewhere (useDraws_sameData _ 12)

theorem readDataLine_updates (f : Tr5) (s : State) : Updates s (readDataLine f s) :=
  (checkParity_updates fun u _ => deliverDataLine_updates f u).elsewhere (useDraws_sameData _ 9)

/-- What follows the effect of a flush command touches the fill buffer, the free values and `EIP` only. -/
theorem looseFill_advance_sameData (s : State) (n : Nat) : SameData s (s.looseFill.advance n) := by
  constructor <;> rfl

/-- Every command of TR5 (rules R184, R188 to R197). -/
theorem tr5Meaning_reaches (f : Tr5) (s : State) : Reaches s (tr5Meaning f s) := by
  unfold tr5Meaning
  split_ifs
  · exact tr5Access_reaches fun u => (advance_sameData u 2).updates
  · exact tr5Access_reaches (writeDataLine_updates _)
  · exact tr5Access_reaches (writeCodeLine_updates _)
  · exact tr5Access_reaches (readDataLine_updates _)
  · exact tr5Access_reaches (readCodeLine_updates _)
  · exact tr5Access_reaches fun u =>
      (invalidateDataLine_updates (mem_wayKeys_cacheWay _ _ _) _).elsewhere (looseFill_advance_sameData _ 2)
  · exact tr5Access_reaches fun u => Update.flushData.once.elsewhere (looseFill_advance_sameData _ 2)
  · exact tr5Access_reaches fun u => Update.flushCode.once.elsewhere (looseFill_advance_sameData _ 2)

/-! ### The commands of TR6 -/

theorem tr6Access_reaches {f : Tr6} {command : State → Result} {s : State}
    (h : Reaches (s.withTlbTest { s.tlbTest with tr6 := f }) (command (s.withTlbTest { s.tlbTest with tr6 := f }))) :
    Reaches s (tr6Access f command s) :=
  fun t ht => (h t (tr6Access_next.mp ht).2.2).head (.tlbTest { s.tlbTest with tr6 := f } .kept)

theorem tlbWrite_updates {n : TlbName} {s : State} (la : BitVec 20) (e : TlbEntry)
    (hn : tlbOf s.cfg.variant n = n) : Updates s (tlbWrite n la e s) := by
  have entry := (Update.tlbEntry n la s.tlbTest.tr7.entry e hn).once
  have index : tlbSet n la < tlbSets n := Nat.mod_lt _ (by cases n <;> decide)
  unfold tlbWrite
  dsimp only
  split
  · exact (entry.andThen (.tlbLru n _ s.tlbTest.tr7.lru index)).elsewhere (by constructor <;> rfl)
  · exact entry.elsewhere (by constructor <;> rfl)

theorem hitBitSet_reaches {s u : State} {k : Result} (h : Reaches s k) : Reaches s (hitBitSet u k) :=
  fun t ht => h t (hitBitSet_next.mp ht).2

/-- A search that hits names its TLB and a key it looked at. -/
theorem searchOf_hit {n m : TlbName} {keys : List Nat} {k : Nat} (h : searchOf n keys = .hit m k) :
    m = n ∧ k ∈ keys := by
  match keys with
  | [] => cases h
  | [_] => cases h; simp
  | _ :: _ :: _ => cases h

/-- The set of a key that a search on `P` looks at (rule R234). -/
theorem tlbMatches_set {t : Tlbs} {n : TlbName} {la : BitVec 20} {k : Nat} (h : k ∈ tlbMatches .p t n la) :
    k / 4 < tlbSets n := by
  have hk := (List.mem_filter.mp h).1
  cases n with
  | code =>
    obtain ⟨i, hi, rfl⟩ := List.mem_map.mp hk
    have hi := List.mem_range.mp hi
    have hs : tlbSet .code la < tlbSets .code := Nat.mod_lt _ (by decide)
    omega
  | data4K | data4M =>
    have := List.mem_range.mp hk
    omega

theorem searchCode_set {t : Tlbs} {la : BitVec 20} {n : TlbName} {k : Nat} (h : searchCode .p t la = .hit n k) :
    k / 4 < tlbSets n := by
  obtain ⟨rfl, hk⟩ := searchOf_hit h
  exact tlbMatches_set hk

theorem searchData_set {t : Tlbs} {la : BitVec 20} {n : TlbName} {k : Nat} (h : searchData .p t la = .hit n k) :
    k / 4 < tlbSets n := by
  simp only [searchData] at h
  split at h
  · cases h
  · cases h
  · rename_i hit _
    cases h
    obtain ⟨rfl, hk⟩ := searchOf_hit hit
    exact tlbMatches_set hk
  · obtain ⟨rfl, hk⟩ := searchOf_hit h
    exact tlbMatches_set hk

/-- Bits under a mask below `n` make a number below `n`. -/
theorem toNat_and_lt {w : Nat} (x m : BitVec w) {n : Nat} (h : m.toNat < n) : (x &&& m).toNat < n := by
  rw [BitVec.toNat_and]
  exact lt_of_le_of_lt Nat.and_le_right h

theorem tr7AfterMiss_source (s : State) : Tr7Source s (tr7AfterMiss s) := by
  refine .read _ (fun hp => ?_) (fun hm => by simp [tr7AfterMiss, hm])
  simp only [tr7AfterMiss, hp, clipEntry]
  exact toNat_and_lt _ 3 (by decide)

theorem tr7AfterHit_source (n : TlbName) (k : Nat) (s : State) : Tr7Source s (tr7AfterHit n k s) := by
  refine .read _ (fun hp => ?_) (fun hm => by simp [tr7AfterHit, hm])
  simp only [tr7AfterHit, hp, BitVec.toNat_ofNat]
  omega

theorem tlbReadHit_updates {n : TlbName} {k : Nat} {s : State} (tr6 : Tr6)
    (hk : s.cfg.variant = .p → k / 4 < tlbSets n) :
    Updates s (tlbReadDone tr6 (tr7AfterHit n k s) (tlbsAfterHit n k s) s) := by
  have regs := (Update.tlbTest ⟨tr6, _⟩ (tr7AfterHit_source n k s)).once
  unfold tlbReadDone tlbsAfterHit
  split
  · rename_i hp
    exact (regs.andThen (.tlbLru n _ _ (hk hp))).elsewhere (by constructor <;> rfl)
  · exact regs.elsewhere (by constructor <;> rfl)

theorem tlbRead_reaches {found : TlbSearch} {onMiss : State → Tr6} {onHit : TlbEntry → State → Tr6} {s : State}
    (h : ∀ n k, s.cfg.variant = .p → found = .hit n k → k / 4 < tlbSets n) :
    Reaches s (tlbRead found onMiss onHit s) := by
  cases found with
  | double => exact reaches_refused s _
  | miss =>
    exact reaches_next ((Update.tlbTest ⟨_, _⟩ (tr7AfterMiss_source s)).once.elsewhere (by constructor <;> rfl))
  | hit n k =>
    exact reaches_next ((checkParity_updates fun u hu =>
      tlbReadHit_updates _ fun hp => h n k (hu ▸ hp) rfl).elsewhere (useDraws_sameData _ 10))

/-- Every command of TR6 (rules R224 to R227). -/
theorem tr6Meaning_reaches (f : Tr6) (s : State) : Reaches s (tr6Meaning f s) := by
  have data (v : Variant) (ps : Bool) : tlbOf v (dataTlb v ps) = dataTlb v ps := by cases v <;> cases ps <;> rfl
  have code (v : Variant) : tlbOf v .code = .code := by cases v <;> rfl
  unfold tr6Meaning
  split_ifs
  · refine tr6Access_reaches (tlbRead_reaches fun n k hp hit => ?_)
    rw [hp] at hit
    exact searchData_set hit
  · refine tr6Access_reaches (tlbRead_reaches fun n k hp hit => ?_)
    rw [hp] at hit
    exact searchCode_set hit
  · exact tr6Access_reaches (hitBitSet_reaches (reaches_next
      ((tlbWrite_updates _ _ (data _ _)).elsewhere (advance_sameData _ 2))))
  · exact tr6Access_reaches (hitBitSet_reaches (reaches_next
      ((tlbWrite_updates _ _ (code _)).elsewhere (advance_sameData _ 2))))

/-! ### The commands of TR11 -/

/-- A TR11 command runs on the state with the value stored, on `PMMX` with a set the BTB has, on `P` with the third
control bit clear (rules R43, R44). -/
theorem tr11Access_reaches {f : Tr11} {command : State → Result} {s : State}
    (h : ∀ u, (u.cfg.variant = .pmmx → f.set.toNat < Variant.btbSets .pmmx) →
      (u.cfg.variant = .p → f.control.getLsbD 2 = false) → Reaches u (command u)) :
    Reaches s (tr11Access f command s) := by
  intro t ht
  obtain ⟨-, fits, -, done⟩ := tr11Access_next.mp ht
  refine (h (s.latchTr11 f) (fun hm => ?_) (fun hp => ?_) t done).head (.latchTr11 f)
  · simp only [latchTr11_cfg] at hm
    simpa [tr11Operands, hm] using fits
  · simp only [latchTr11_cfg] at hp
    simp only [tr11Operands, hp] at fits
    split at fits
    · rename_i bits
      exact bits.2.2
    · cases fits

theorem btbWrite_reaches {f : Tr11} {s : State} (hs : s.cfg.variant = .pmmx → f.set.toNat < Variant.btbSets .pmmx) :
    Reaches s (btbWrite f s) := by
  have store (hm : s.cfg.variant = .pmmx) (w : BitVec 2) : Updates s (btbStore f s w) :=
    (Update.btbStorePmmx f w hm (hs hm)).once.elsewhere (advance_sameData _ 2)
  unfold btbWrite
  split
  · rename_i hm
    split
    · exact reaches_next (store hm _)
    · exact reaches_next ((store hm _).elsewhere (useDraws_sameData _ 1))
  · rename_i hp
    split
    · exact reaches_next ((Update.btbStoreP f hp).once.elsewhere (advance_sameData _ 2))
    · exact reaches_refused s _

/-- Every command of TR11 (rules R253 to R258). -/
theorem tr11Meaning_reaches (f : Tr11) (s : State) : Reaches s (tr11Meaning f s) := by
  unfold tr11Meaning
  split_ifs
  · exact tr11Access_reaches fun u _ _ => reaches_next (advance_sameData u 2).updates
  · exact tr11Access_reaches fun u hs _ => btbWrite_reaches hs
  · exact tr11Access_reaches fun u _ _ => reaches_next (Update.btbReadData _).once
  · exact tr11Access_reaches fun u _ _ => reaches_next (Update.flushBtb.once.elsewhere (advance_sameData _ 2))
  · refine tr11Access_reaches fun u _ hc => reaches_next (Update.btbReadTag _ ?_).once
    cases hv : u.cfg.variant
    · exact absurd (hc hv) (show (5 : BitVec 3).getLsbD 2 ≠ false by decide)
    · rfl
  all_goals exact tr11Access_reaches fun u _ _ => reaches_refused u _

/-! ### WRMSR, RDMSR, RDPMC and the dispatch -/

theorem wrmsrOf_reaches (s : State) (m : Msr) : Reaches s (wrmsrOf s m) := by
  cases m with
  | mca | mct => exact reaches_privileged (reaches_refused s _)
  | tr1 => exact writeMsr_reaches (pre := fun _ => true) (effect := writeTr1) fun _ => (withParity_sameData s _).updates
  | tr2 =>
    simp only [wrmsrOf, execWrmsrTr2]
    split
    · exact writeMsr_reaches fun _ => SameData.updates (by constructor <;> rfl)
    · exact reaches_privileged (reaches_reservedAccess s _ _)
  | tr3 => exact writeMsr_reaches (effect := writeTr3) fun _ => SameData.updates (by constructor <;> rfl)
  | tr4 =>
    exact writeMsr_reaches (effect := writeTr4) fun _ =>
      (Update.cacheTest _ (by exact .unpacked _) (by exact .kept)).once
  | tr5 => exact reaches_privileged (reaches_noReservedOnes (tr5Meaning_reaches _ s))
  | tr6 => exact reaches_privileged (reaches_noReservedOnes (tr6Meaning_reaches _ s))
  | tr7 =>
    exact writeMsr_reaches (effect := writeTr7) fun _ =>
      (Update.tlbTest _ (by exact .unpacked _)).once.elsewhere (withTlbSequence_sameData _ _)
  | tr9 => exact writeMsr_reaches (effect := writeTr9) fun hv => (Update.tr9 _ hv).once
  | tr10 => exact writeMsr_reaches (effect := writeTr10) fun _ => SameData.updates (by constructor <;> rfl)
  | tr11 => exact reaches_privileged (reaches_noReservedOnes (tr11Meaning_reaches _ s))
  | tr12 =>
    exact writeMsr_reaches (pre := fun _ => true) (effect := fun v t => t.withTr12 v) fun hv => (Update.tr12 _ hv).once
  | tsc | cesr | ctr0 | ctr1 =>
    simp only [wrmsrOf, execWrmsrTsc, execWrmsrCesr, execWrmsrCtr0, execWrmsrCtr1]
    exact writeMsr_reaches fun _ => (withPerf_sameData s _).updates

theorem execRdmsr_reaches (s : State) : Reaches s (execRdmsr s) := by
  refine reaches_privileged ?_
  split
  · exact rdmsrOf_reaches s _
  · exact reaches_reservedAccess s _ _

theorem execWrmsr_reaches (s : State) : Reaches s (execWrmsr s) := by
  refine reaches_privileged ?_
  split
  · exact wrmsrOf_reaches s _
  · exact reaches_reservedAccess s _ _

theorem execRdmsrReserved04_reaches (s : State) : Reaches s (execRdmsrReserved04 s) := by
  unfold execRdmsrReserved04
  split
  · exact reaches_refused s _
  · exact reaches_privileged (reaches_reservedAccess s _ _)

theorem execWrmsrReserved04_reaches (s : State) : Reaches s (execWrmsrReserved04 s) := by
  unfold execWrmsrReserved04
  split
  · exact reaches_refused s _
  · exact reaches_privileged (reaches_reservedAccess s _ _)

theorem execRdtsc_reaches (s : State) : Reaches s (execRdtsc s) := by
  unfold execRdtsc
  split
  · exact reaches_fault s _
  · exact reaches_next (result_sameData s _).updates

theorem rdpmcAllowed_reaches {s : State} {k : Result} (h : Reaches s k) : Reaches s (rdpmcAllowed s k) := by
  unfold rdpmcAllowed
  split
  · exact reaches_fault s _
  · split
    · exact reaches_fault s _
    · exact h

theorem execRdpmcCtr0_reaches (s : State) : Reaches s (execRdpmcCtr0 s) :=
  rdpmcAllowed_reaches (reaches_next (result_sameData s _).updates)

theorem execRdpmcCtr1_reaches (s : State) : Reaches s (execRdpmcCtr1 s) :=
  rdpmcAllowed_reaches (reaches_next (result_sameData s _).updates)

theorem execRdpmcOther_reaches (x : Word) (s : State) : Reaches s (execRdpmcOther x s) :=
  rdpmcAllowed_reaches (reaches_fault s _)

theorem execRdpmc_reaches (s : State) : Reaches s (execRdpmc s) := by
  unfold execRdpmc
  split_ifs
  · exact execRdpmcCtr0_reaches s
  · exact execRdpmcCtr1_reaches s
  · exact execRdpmcOther_reaches _ s

theorem execRdpmcOnP_reaches (s : State) : Reaches s (execRdpmcOnP s) := by
  unfold execRdpmcOnP
  split
  · exact reaches_fault s _
  · exact reaches_refused s _

theorem execCpuid_reaches (s : State) : Reaches s (execCpuid s) := by
  unfold execCpuid
  split
  · exact reaches_next (SameData.updates (by constructor <;> rfl))
  · exact reaches_refused s _

/-- A helper instruction changes registers of the core only (rules R170 to R173). -/
theorem withCore_advance_reaches (s : State) (x : Core) (n : Nat) :
    Reaches s (.next ((s.withCore x).advance n)) :=
  reaches_next ((withCore_sameData s x).updates.elsewhere (advance_sameData _ n))

/-- Every instruction of the opcode table. -/
theorem exec_reaches (i : Instr) (s : State) : Reaches s (exec i s) := by
  cases i with
  | wrmsr => exact execWrmsr_reaches s
  | rdmsr => exact execRdmsr_reaches s
  | rdtsc => exact execRdtsc_reaches s
  | rdpmc => exact execRdpmc_reaches s
  | rdpmcOnP => exact execRdpmcOnP_reaches s
  | cpuid => exact execCpuid_reaches s
  | movImm | orEaxImm | andEaxImm | xorSame => exact withCore_advance_reaches s _ _
  | hlt => exact reaches_privileged (reaches_next (SameData.updates (by constructor <;> rfl)))
  | rdmsrMca => exact rdmsrOf_reaches s .mca
  | rdmsrMct => exact rdmsrOf_reaches s .mct
  | rdmsrTr1 => exact rdmsrOf_reaches s .tr1
  | rdmsrTr2 => exact rdmsrOf_reaches s .tr2
  | rdmsrTr3 => exact rdmsrOf_reaches s .tr3
  | rdmsrTr4 => exact rdmsrOf_reaches s .tr4
  | rdmsrTr5 => exact rdmsrOf_reaches s .tr5
  | rdmsrTr6 => exact rdmsrOf_reaches s .tr6
  | rdmsrTr7 => exact rdmsrOf_reaches s .tr7
  | rdmsrTr9 => exact rdmsrOf_reaches s .tr9
  | rdmsrTr10 => exact rdmsrOf_reaches s .tr10
  | rdmsrTr11 => exact rdmsrOf_reaches s .tr11
  | rdmsrTr12 => exact rdmsrOf_reaches s .tr12
  | rdmsrTsc => exact rdmsrOf_reaches s .tsc
  | rdmsrCesr => exact rdmsrOf_reaches s .cesr
  | rdmsrCtr0 => exact rdmsrOf_reaches s .ctr0
  | rdmsrCtr1 => exact rdmsrOf_reaches s .ctr1
  | wrmsrMca => exact wrmsrOf_reaches s .mca
  | wrmsrMct => exact wrmsrOf_reaches s .mct
  | wrmsrTr1 => exact wrmsrOf_reaches s .tr1
  | wrmsrTr2 => exact wrmsrOf_reaches s .tr2
  | wrmsrTr3 => exact wrmsrOf_reaches s .tr3
  | wrmsrTr4 => exact wrmsrOf_reaches s .tr4
  | wrmsrTr5 => exact wrmsrOf_reaches s .tr5
  | wrmsrTr6 => exact wrmsrOf_reaches s .tr6
  | wrmsrTr7 => exact wrmsrOf_reaches s .tr7
  | wrmsrTr9 => exact wrmsrOf_reaches s .tr9
  | wrmsrTr10 => exact wrmsrOf_reaches s .tr10
  | wrmsrTr11 => exact wrmsrOf_reaches s .tr11
  | wrmsrTr12 => exact wrmsrOf_reaches s .tr12
  | wrmsrTsc => exact wrmsrOf_reaches s .tsc
  | wrmsrCesr => exact wrmsrOf_reaches s .cesr
  | wrmsrCtr0 => exact wrmsrOf_reaches s .ctr0
  | wrmsrCtr1 => exact wrmsrOf_reaches s .ctr1
  | rdmsrReserved03 | wrmsrReserved03 | rdmsrReserved0A | wrmsrReserved0A | rdmsrReserved0F | wrmsrReserved0F |
    rdmsrReservedAbove | wrmsrReservedAbove => exact reaches_privileged (reaches_reservedAccess s _ _)
  | rdmsrReserved04 => exact execRdmsrReserved04_reaches s
  | wrmsrReserved04 => exact execWrmsrReserved04_reaches s
  | rdpmcCtr0 => exact execRdpmcCtr0_reaches s
  | rdpmcCtr1 => exact execRdpmcCtr1_reaches s
  | rdpmcOther x => exact execRdpmcOther_reaches x s
  | tr5Normal buffer set entry cd wb => exact tr5Meaning_reaches ⟨0, buffer, set, entry, cd, wb⟩ s
  | tr5WriteCode buffer set entry wb => exact tr5Meaning_reaches ⟨1, buffer, set, entry, false, wb⟩ s
  | tr5WriteData buffer set entry wb => exact tr5Meaning_reaches ⟨1, buffer, set, entry, true, wb⟩ s
  | tr5ReadCode buffer set entry wb => exact tr5Meaning_reaches ⟨2, buffer, set, entry, false, wb⟩ s
  | tr5ReadData buffer set entry wb => exact tr5Meaning_reaches ⟨2, buffer, set, entry, true, wb⟩ s
  | tr5FlushCode buffer set entry wb => exact tr5Meaning_reaches ⟨3, buffer, set, entry, false, wb⟩ s
  | tr5FlushDataAll buffer set entry => exact tr5Meaning_reaches ⟨3, buffer, set, entry, true, false⟩ s
  | tr5FlushDataLine buffer set entry => exact tr5Meaning_reaches ⟨3, buffer, set, entry, true, true⟩ s
  | tr6WriteCode la v d u w ps => exact tr6Meaning_reaches ⟨la, v, d, u, w, ps, false, false⟩ s
  | tr6WriteData la v d u w ps => exact tr6Meaning_reaches ⟨la, v, d, u, w, ps, true, false⟩ s
  | tr6ReadCode la v d u w ps => exact tr6Meaning_reaches ⟨la, v, d, u, w, ps, false, true⟩ s
  | tr6ReadData la v d u w ps => exact tr6Meaning_reaches ⟨la, v, d, u, w, ps, true, true⟩ s
  | tr11Normal btype set bank way => exact tr11Meaning_reaches ⟨0, set, bank, way, btype⟩ s
  | tr11Write btype set bank way => exact tr11Meaning_reaches ⟨1, set, bank, way, btype⟩ s
  | tr11ReadData btype set bank way => exact tr11Meaning_reaches ⟨2, set, bank, way, btype⟩ s
  | tr11Flush btype set bank way => exact tr11Meaning_reaches ⟨3, set, bank, way, btype⟩ s
  | tr11ReadTag btype set bank way => exact tr11Meaning_reaches ⟨5, set, bank, way, btype⟩ s
  | tr11Reserved4 btype set bank way => exact tr11Meaning_reaches ⟨4, set, bank, way, btype⟩ s
  | tr11Reserved6 btype set bank way => exact tr11Meaning_reaches ⟨6, set, bank, way, btype⟩ s
  | tr11Reserved7 btype set bank way => exact tr11Meaning_reaches ⟨7, set, bank, way, btype⟩ s

/-! ### Accesses by normal operation -/

theorem invalidateDataLine_cfg (k : Nat) (a : BitVec 7) (s : State) : (invalidateDataLine k a s).cfg = s.cfg :=
  (invalidateDataLine_kept k a s).1

theorem giveUpDataLine_updates {k : Nat} {set a : BitVec 7} {rest : State → State} {s : State}
    (hk : k ∈ wayKeys s.cfg.variant set) (h : ∀ u, u.cfg = s.cfg → Updates u (rest u)) :
    Updates s (giveUpDataLine k a rest s) :=
  checkParity_updates fun u hu =>
    (invalidateDataLine_updates (hu ▸ hk) a).trans (h _ ((invalidateDataLine_cfg k a u).trans hu))

theorem giveUpDataLines_updates {set a : BitVec 7} {keys : List Nat} {s : State}
    (hk : ∀ k ∈ keys, k ∈ wayKeys s.cfg.variant set) : Updates s (giveUpDataLines a id keys s) := by
  induction keys generalizing s with
  | nil => exact .refl
  | cons k keys ih =>
    rw [List.forall_mem_cons] at hk
    exact giveUpDataLine_updates hk.1 fun u hu => ih (hu ▸ hk.2)

theorem snoopData_updates (a : Word) (s : State) : Updates s (snoopData a s) :=
  giveUpDataLines_updates fun _ hk => (List.mem_filter.mp hk).1

theorem invalidateCodeLines_updates {set : BitVec 7} {keys : List Nat} {s : State}
    (hk : ∀ k ∈ keys, k ∈ wayKeys s.cfg.variant set) :
    Updates s (keys.foldl (fun u k => invalidateCodeLine k u) s) := by
  induction keys generalizing s with
  | nil => exact .refl
  | cons k keys ih =>
    rw [List.forall_mem_cons] at hk
    exact (invalidateCodeLine_updates hk.1).trans (ih hk.2)

theorem snoopCode_updates {a : Word} {rest : State → State} {s : State} (h : ∀ u, Updates u (rest u)) :
    Updates s (snoopCode a rest s) :=
  checkParity_updates fun u hu =>
    (invalidateCodeLines_updates (s := u) fun _ hk => hu ▸ (List.mem_filter.mp hk).1).trans (h _)

theorem codeFetchMove_reaches (a : Word) (s : State) : Reaches s (codeFetchMove a s) := by
  unfold codeFetchMove
  split
  · exact reaches_next ((snoopData_updates a s).elsewhere (useDraws_sameData _ 1))
  · exact reaches_next ((checkParity_updates fun _ _ => .refl).elsewhere (useDraws_sameData _ 1))
  · exact reaches_refused s _

theorem afterCodeAccess_reaches {a : Word} {k : State → Result} {s : State} (h : ∀ u, Reaches u (k u)) :
    Reaches s (afterCodeAccess a k s) := by
  unfold afterCodeAccess
  split
  · rename_i t ht
    have access := codeFetchMove_reaches _ s t ht
    split
    · exact reaches_next (access.elsewhere (idleClocks_sameData t))
    · exact fun u hu => access.trans (h t u hu)
  · exact reaches_fault s _
  · exact reaches_refused s _

theorem fetched_reaches {n : Nat} {k : State → Result} {s : State} (h : ∀ u, Reaches u (k u)) :
    Reaches s (fetched n k s) := by
  refine afterCodeAccess_reaches fun u => ?_
  split
  · exact h u
  · exact afterCodeAccess_reaches h

theorem disturbFill_updates (s : State) : Updates s (disturbFill s) := SameData.updates (by constructor <;> rfl)

theorem dataReadMove_reaches (a : Word) (s : State) : Reaches s (dataReadMove a s) := by
  unfold dataReadMove
  split
  · exact reaches_next ((snoopCode_updates disturbFill_updates).elsewhere (useDraws_sameData _ 17))
  · exact reaches_next ((checkParity_updates fun u _ => disturbFill_updates u).elsewhere (useDraws_sameData _ 17))
  · exact reaches_refused s _

theorem dataWriteMove_reaches (a : Word) (b : Byte) (state : Mesi) (reachesMemory : Bool) (s : State) :
    Reaches s (dataWriteMove a b state reachesMemory s) := by
  unfold dataWriteMove
  dsimp only
  split
  · refine reaches_next (snoopCode_updates fun u => ?_)
    split
    · exact (Update.storeByte a b).once
    · exact .refl
  · rename_i k hits
    have hk : k ∈ wayKeys s.cfg.variant (addressSet s.cfg a) :=
      (List.mem_filter.mp (hits ▸ List.mem_singleton_self k : k ∈ dataHits a s)).1
    refine reaches_next (checkParity_updates fun u hu => ?_)
    have line := (Update.dataLine (hu ▸ hk : k ∈ wayKeys u.cfg.variant (addressSet s.cfg a))
      (lineAfterWrite a b state u.parity.dd (u.caches.dataLine k)) (.dataLine k)).once
    split
    · exact line.andThen (.storeByte a b)
    · exact line
  · exact reaches_refused s _

/-! ### The moves of the agents -/

theorem cacheTestAfterFlush_updates (s : State) : Updates s (s.withCacheTest (cacheTestAfterFlush s)) :=
  have tr4 : Update s (s.withCacheTest { s.cacheTest with tr4 := (cacheTestAfterFlush s).tr4 }) :=
    .cacheTest _ (.unpacked _) .kept
  tr4.once.andThen (.cacheTest _ .kept (.unpacked (s.free 3)))

theorem afterWriteback_updates (s : State) : Updates s (afterWriteback s) :=
  have flushed := (Update.flushCode (s := s)).once.andThen .flushData
  (flushed.trans (cacheTestAfterFlush_updates _)).elsewhere (by constructor <;> rfl)

theorem writebackAll_updates (lines : Sparse DataLine) (s : State) :
    Updates s (writebackAll afterWriteback lines s) := by
  induction lines generalizing s with
  | nil => exact afterWriteback_updates s
  | cons p lines ih =>
    unfold writebackAll
    split
    · exact checkParity_updates fun u _ => (writeback_updates _ _ u).trans (ih _)
    · exact ih s

theorem flushPin_updates (s : State) : Updates s (flushPin s) :=
  (writebackAll_updates _ s).elsewhere (useDraws_sameData _ 20)

theorem fillCodeMove_updates (set : BitVec 7) (way : BitVec 2) (tag : BitVec 23) (data : LineData) (s : State) :
    Updates s (fillCodeMove set way tag data s) := by
  unfold fillCodeMove
  dsimp only
  split
  · exact (Update.codeLine (mem_wayKeys_cacheWay _ set way) _ (by exact .clipped tag)).once
  · exact .refl

theorem fillDataMove_updates (set : BitVec 7) (way : BitVec 2) (tag : BitVec 23) (data : LineData) (state : Mesi)
    (wb : Bool) (s : State) : Updates s (fillDataMove set way tag data state wb s) := by
  have key := mem_wayKeys_cacheWay s.cfg.variant set way
  unfold fillDataMove
  dsimp only
  split
  · exact giveUpDataLine_updates key fun u hu =>
      (Update.dataLine (s := u) (by rw [hu]; exact key) _ (by exact .clipped tag)).once
  · exact .refl

theorem evictCodeMove_updates (set : BitVec 7) (way : BitVec 2) (s : State) :
    Updates s (evictCodeMove set way s) := by
  unfold evictCodeMove
  split
  · exact .refl
  · exact invalidateCodeLine_updates (mem_wayKeys_cacheWay _ set way)

theorem evictDataMove_updates (set : BitVec 7) (way : BitVec 2) (s : State) :
    Updates s (evictDataMove set way s) := by
  unfold evictDataMove
  split
  · exact .refl
  · exact giveUpDataLine_updates (mem_wayKeys_cacheWay _ set way) fun _ _ => .refl

theorem repairMove_updates (set : BitVec 7) (way : BitVec 2) (bits : LineBits) (s : State) :
    Updates s (repairMove set way bits s) := by
  have key := mem_wayKeys_cacheWay s.cfg.variant set way
  unfold repairMove
  dsimp only
  split
  · exact (Update.codeLine key _ (by exact .codeLine _)).once
  · exact .refl

theorem fillTlb_updates (n : TlbName) (entry : BitVec 6) (lru : BitVec 3) (e : TlbEntry) (s : State) :
    Updates s (fillTlb n entry lru e s) := by
  have name : tlbOf s.cfg.variant (tlbOf s.cfg.variant n) = tlbOf s.cfg.variant n := by
    cases s.cfg.variant <;> cases n <;> rfl
  have index (m : TlbName) : tlbSet m e.lpn < tlbSets m := Nat.mod_lt _ (by cases m <;> decide)
  have stored (x : TlbEntry) := (Update.tlbEntry _ e.lpn entry x name).once
  unfold fillTlb
  dsimp only
  split
  · exact ((stored _).andThen (.tlbLru _ _ lru (index _))).elsewhere (by constructor <;> rfl)
  · exact (stored _).elsewhere (by constructor <;> rfl)

theorem tlbFillMove_updates (n : TlbName) (entry : BitVec 6) (lru : BitVec 3) (e : TlbEntry) (s : State) :
    Updates s (tlbFillMove n entry lru e s) := by
  unfold tlbFillMove
  split
  · exact fillTlb_updates n entry lru e s
  · exact .refl

theorem lookupTlb_reaches (n : TlbName) (la : BitVec 20) (s : State) : Reaches s (lookupTlb n la s) := by
  unfold lookupTlb
  dsimp only
  split
  · exact reaches_next .refl
  · exact reaches_next ((withTlbSequence_sameData s _).updates.trans (checkParity_updates fun _ _ => .refl))
  · exact reaches_refused s _

theorem tlbLookupMove_reaches (n : TlbName) (la : BitVec 20) (s : State) : Reaches s (tlbLookupMove n la s) := by
  unfold tlbLookupMove
  split
  · exact lookupTlb_reaches n la s
  · exact reaches_next .refl

theorem takenBranchMove_updates (source target : Word) (s : State) : Updates s (takenBranchMove source target s) := by
  unfold takenBranchMove
  split_ifs <;> exact SameData.updates (by constructor <;> rfl)

theorem machineCheckMove_reaches (addr type : Quad) (s : State) : Reaches s (machineCheckMove addr type s) := by
  unfold machineCheckMove
  dsimp only
  split
  · exact reaches_fault s _
  · exact reaches_next (SameData.updates (by constructor <;> rfl))

theorem executed_updates {effect : State → State} (h : ∀ u, Updates u (effect u)) (s : State) :
    Updates s (executed effect s) :=
  ((beforeInstruction_sameData s).updates.trans (h _)).elsewhere (afterInstruction_sameData _ _)

theorem loadControl_reaches {effect : State → State} (h : ∀ u, Updates u (effect u)) (s : State) :
    Reaches s (loadControl effect s) := reaches_privileged (reaches_next (executed_updates h s))

theorem loadCr3Effect_updates (v : Word) (s : State) : Updates s (loadCr3Effect v s) :=
  (((withCore_sameData s { s.core with cr3 := v }).updates.andThen .flushTlbs).andThen .flushBtb).elsewhere
    (withTlbSequence_sameData _ _)

/-- Every move of an agent. -/
theorem agentMove_reaches (a : Agent) (s : State) : Reaches s (agentMove a s) := by
  have core (u : State) (x : Core) := (withCore_sameData u x).updates
  cases a with
  | reset => exact reaches_next Update.reset.once
  | flush => exact reaches_next (flushPin_updates s)
  | clocks n => exact reaches_next (withPerf_sameData s _).updates
  | machineCheck addr type => exact machineCheckMove_reaches addr type s
  | loadCr3 v => exact loadControl_reaches (loadCr3Effect_updates v) s
  | loadCr0 v => exact loadControl_reaches (fun u => core u _) s
  | loadCr4 v => exact loadControl_reaches (fun u => core u _) s
  | loadDr i v => exact reaches_next (executed_updates (fun u => core u _) s)
  | changeCpl c => exact reaches_next (executed_updates (fun u => core u _) s)
  | dataRead a => exact dataReadMove_reaches a s
  | dataWrite a b state reachesMemory => exact dataWriteMove_reaches a b state reachesMemory s
  | memoryWrite a b => exact reaches_next (Update.storeByte a b).once
  | codeFetch a => exact codeFetchMove_reaches a s
  | fillCode set way tag data => exact reaches_next (fillCodeMove_updates set way tag data s)
  | fillData set way tag data state wb => exact reaches_next (fillDataMove_updates set way tag data state wb s)
  | evictCode set way => exact reaches_next (evictCodeMove_updates set way s)
  | evictData set way => exact reaches_next (evictDataMove_updates set way s)
  | touchCode set lru => exact reaches_next (Update.codeLru set lru).once
  | touchData set lru => exact reaches_next (Update.dataLru set lru).once
  | repairEndBits set way bits => exact reaches_next (repairMove_updates set way bits s)
  | btbAllocate set bank way e => exact reaches_next (Update.btbAllocate set bank way e).once
  | btbRelease set bank way => exact reaches_next (Update.btbRelease set bank way).once
  | tlbFill n entry lru e => exact reaches_next (tlbFillMove_updates n entry lru e s)
  | tlbLookup n la => exact tlbLookupMove_reaches n la s
  | takenBranch source target => exact reaches_next (takenBranchMove_updates source target s)

/-! ### The step -/

theorem executeInstruction_reaches (i : Instr) (s : State) : Reaches s (executeInstruction i s) := by
  unfold executeInstruction
  split
  · rename_i t ht
    have effect := (exec_reaches i (beforeInstruction s)).of_sameData (beforeInstruction_sameData s)
    exact reaches_next ((effect t ht).elsewhere (afterInstruction_sameData _ t))
  · exact reaches_fault s _
  · exact reaches_refused s _

theorem coreTurn_reaches (s : State) : Reaches s (coreTurn s) := by
  unfold coreTurn runInstruction
  split
  · exact reaches_fault s _
  · exact reaches_next (idleClocks_sameData s).updates
  · split
    · exact reaches_refused s _
    · exact fetched_reaches (executeInstruction_reaches _)

theorem drained_reaches {s : State} {r : Result} (h : Reaches s r) (n : Nat) : Reaches s (drained n r) := by
  cases r with
  | next t => exact reaches_next ((h t rfl).elsewhere (drainClocks_sameData t n))
  | fault f => exact reaches_fault s f
  | refused x => exact reaches_refused s x

theorem takeTurn_reaches (turn : Turn) (s : State) : Reaches s (takeTurn turn s) := by
  cases turn with
  | core => exact coreTurn_reaches s
  | agent a => exact drained_reaches (agentMove_reaches a s) 0

theorem afterMicrocodeCheck_reaches {k : State → Result} {s : State} (h : ∀ u, Reaches u (k u)) :
    Reaches s (afterMicrocodeCheck k s) := by
  unfold afterMicrocodeCheck
  split
  · exact reaches_next ((microcodeCheck_sameData s).updates.elsewhere (idleClocks_sameData _))
  · exact (h _).of_sameData (microcodeCheck_sameData s)

theorem stepTurn_reaches (turn : Turn) (s : State) : Reaches s (stepTurn turn s) := by
  unfold stepTurn
  split
  · exact takeTurn_reaches _ s
  · split
    · exact reaches_fault s _
    · exact afterMicrocodeCheck_reaches (takeTurn_reaches _)

/-- All a step can do: elementary updates, one after the other. -/
theorem step_updates {s t : State} (h : step s = .next t) : Updates s t :=
  have turnTaken : SameData s s.turnTaken := by constructor <;> rfl
  (stepTurn_reaches s.nextTurn s.turnTaken).of_sameData turnTaken t h

/-- Settles O9: each elementary update keeps the setup, and a step is a sequence of them. -/
theorem stepKeepsConfigAndCode : Obligations.StepKeepsConfigAndCode := by
  intro s t h
  exact (step_updates h).setup

end Sys2Proof.Machine

/-!
PROOF. The widths of the fields that differ between the variants, and of the cache tags: each source of a value keeps
them, so each update does (O8).
-/

namespace Sys2Proof.Machine

/-! ### The width of a field -/

theorem fieldNat_lt (ps : List Nat) (v : Quad) : fieldNat ps v < 2 ^ ps.length := by
  induction ps with
  | nil => simp [fieldNat]
  | cons p ps ih =>
    have bit : boolNat (v.getLsbD p) ≤ 1 := by cases v.getLsbD p <;> decide
    simp only [fieldNat, List.length_cons, pow_succ]
    omega

theorem fieldBits_lt (w : Nat) (ps : List Nat) (v : Quad) : (fieldBits w ps v).toNat < 2 ^ ps.length := by
  rw [fieldBits, BitVec.toNat_ofNat]
  exact lt_of_le_of_lt (Nat.mod_le _ _) (fieldNat_lt ps v)

/-- A field placed among the low `n` bits. -/
theorem placeField_lt {ps : List Nat} {n : Nat} (h : ∀ p ∈ ps, p < n) (x : Nat) :
    (placeField ps x).toNat < 2 ^ n := by
  induction ps generalizing x with
  | nil => simp [placeField]
  | cons p ps ih =>
    rw [List.forall_mem_cons] at h
    rw [placeField, BitVec.toNat_or]
    refine Nat.or_lt_two_pow ?_ (ih h.2 _)
    split
    · rw [BitVec.toNat_twoPow]
      exact lt_of_le_of_lt (Nat.mod_le _ _) (Nat.pow_lt_pow_right (by decide) h.1)
    · simp

/-- The widths a checked configuration gives the fields that differ between the variants (rules R33, R36, R40). -/
theorem check_widths {c : Config} (h : c.check = true) :
    c.tr4.tag.length = c.cacheTagBits ∧ c.tr4.lru.length = c.variant.cacheLruBits ∧
    c.tr5.entry.length = c.variant.tr5EntryBits ∧ c.tr7.lru.length = c.variant.tlbLruBits ∧
    c.tr7.entry.length = c.variant.tr7EntryBits := by
  simp only [Config.check, LayoutTr4.check, LayoutTr5.check, LayoutTr7.check, Bool.and_eq_true, beq_iff_eq] at h
  tauto

/-! ### `FieldsFit` part by part -/

/-- The cache tag width and, on `P`, the LRU bit of a TR4 value (rule R33). -/
def Tr4Fits (c : Config) (f : Tr4) : Prop :=
  f.tag.toNat < 2 ^ c.cacheTagBits ∧ (c.variant = .p → f.lru.toNat < 2)

/-- On `P` an entry of one bit (rule R36). -/
def Tr5Fits (v : Variant) (f : Tr5) : Prop := v = .p → f.entry.toNat < 2

/-- On `P` an entry of two bits; on `PMMX` no LRU bits (rule R40). -/
def Tr7Fits (v : Variant) (f : Tr7) : Prop :=
  (v = .p → f.entry.toNat < 4) ∧ (v = .pmmx → f.lru = 0)

/-- The tags and, on `P`, the LRU bits of the caches (rules R35, R60, R61). -/
structure CachesFit (c : Config) (x : Caches) : Prop where
  codeTags : ∀ p ∈ x.icache, p.2.tag.toNat < 2 ^ c.cacheTagBits
  dataTags : ∀ p ∈ x.dcache, p.2.tag.toNat < 2 ^ c.cacheTagBits
  codeLrus : c.variant = .p → ∀ p ∈ x.icacheLru, p.2.toNat < 2
  dataLrus : c.variant = .p → ∀ p ∈ x.dcacheLru, p.2.toNat < 2

/-- The fields a BTB entry has on a variant (rule R65). -/
def BtbEntryFits (v : Variant) (e : BtbEntry) : Prop :=
  (v = .p → e.history.toNat < 4 ∧ e.offset = 0 ∧ e.prediction = false ∧ e.btype = 0) ∧
  (v = .pmmx → e.tag.toNat < 2 ^ 24)

/-- On `P` TR9[5:2] and TR11[31:12] are reserved (rules R41, R43). -/
def BtbTestFits (v : Variant) (x : BtbTest) : Prop :=
  v = .p → x.tr9.extractLsb' 2 4 = 0 ∧ x.tr11.toNat < 2 ^ 12

/-- On `P` TR12[20:19] is reserved (rule R45). -/
def Tr12Fits (v : Variant) (x : Quad) : Prop := v = .p → x.extractLsb' 19 2 = 0

/-- `FieldsFit` with a name for each part. -/
structure Fits (s : State) : Prop where
  tr4 : Tr4Fits s.cfg s.cacheTest.tr4
  tr5 : Tr5Fits s.cfg.variant s.cacheTest.tr5
  tr7 : Tr7Fits s.cfg.variant s.tlbTest.tr7
  caches : CachesFit s.cfg s.caches
  btb : ∀ p ∈ s.btb, BtbEntryFits s.cfg.variant p.2
  btbTest : BtbTestFits s.cfg.variant s.btbTest
  tr12 : Tr12Fits s.cfg.variant s.tr12

theorem Fits.fieldsFit {s : State} (h : Fits s) : s.FieldsFit := by
  refine ⟨⟨h.tr4.1, h.caches.codeTags, h.caches.dataTags⟩, ?_⟩
  split
  · rename_i hp
    obtain ⟨tr9, tr11⟩ := h.btbTest hp
    exact ⟨h.tr4.2 hp, h.tr5 hp, h.tr7.1 hp, h.caches.codeLrus hp, h.caches.dataLrus hp,
      fun p hmem => (h.btb p hmem).1 hp, tr9, tr11, h.tr12 hp⟩
  · rename_i hm
    exact ⟨h.tr7.2 hm, fun p hmem => (h.btb p hmem).2 hm⟩

theorem fits_of_fieldsFit {s : State} (h : s.FieldsFit) : Fits s := by
  obtain ⟨⟨tag, codeTags, dataTags⟩, fields⟩ := h
  split at fields
  · rename_i hp
    obtain ⟨lru, entry5, entry7, codeLrus, dataLrus, btb, tr9, tr11, tr12⟩ := fields
    have other {q : Prop} (hm : s.cfg.variant = .pmmx) : q := by simp [hp] at hm
    exact ⟨⟨tag, fun _ => lru⟩, fun _ => entry5, ⟨fun _ => entry7, other⟩,
      ⟨codeTags, dataTags, fun _ => codeLrus, fun _ => dataLrus⟩, fun p hmem => ⟨fun _ => btb p hmem, other⟩,
      fun _ => ⟨tr9, tr11⟩, fun _ => tr12⟩
  · rename_i hm
    obtain ⟨lru7, btb⟩ := fields
    have other {q : Prop} (hp : s.cfg.variant = .p) : q := by simp [hm] at hp
    exact ⟨⟨tag, other⟩, other, ⟨other, fun _ => lru7⟩, ⟨codeTags, dataTags, other, other⟩,
      fun p hmem => ⟨other, fun _ => btb p hmem⟩, other, other⟩

/-! ### Arrays -/

theorem Sparse.forall_put {α : Type} [DecidableEq α] {d : α} {m : Sparse α} {P : α → Prop} (h : ∀ p ∈ m, P p.2)
    (k : Nat) {v : α} (hv : P v) : ∀ p ∈ Sparse.put d m k v, P p.2 := by
  have kept : ∀ p ∈ Sparse.erase m k, P p.2 := fun p hp => h p (List.mem_filter.mp hp).1
  unfold Sparse.put
  split
  · exact kept
  · intro p hp
    rcases Sparse.mem_insert hp with rfl | hp
    · exact hv
    · exact kept p hp

theorem Sparse.forall_mapAll {α : Type} [DecidableEq α] {d : α} {f : α → α} {m : Sparse α} {P : α → Prop}
    (h : ∀ p ∈ m, P p.2) (hf : ∀ x, P x → P (f x)) : ∀ p ∈ Sparse.mapAll d f m, P p.2 := by
  intro p hp
  obtain ⟨q, hq, -, e⟩ := Sparse.key_of_mem_mapAll hp
  exact e ▸ hf _ (h q hq)

theorem CachesFit.codeLine {c : Config} {x : Caches} (h : CachesFit c x) (k : Nat) :
    (x.codeLine k).tag.toNat < 2 ^ c.cacheTagBits :=
  Sparse.get_of_forall (P := fun l : CodeLine => l.tag.toNat < 2 ^ c.cacheTagBits) (Nat.two_pow_pos _) h.codeTags k

theorem CachesFit.dataLine {c : Config} {x : Caches} (h : CachesFit c x) (k : Nat) :
    (x.dataLine k).tag.toNat < 2 ^ c.cacheTagBits :=
  Sparse.get_of_forall (P := fun l : DataLine => l.tag.toNat < 2 ^ c.cacheTagBits) (Nat.two_pow_pos _) h.dataTags k

theorem CachesFit.codeLru {c : Config} {x : Caches} (h : CachesFit c x) (hp : c.variant = .p) (set : BitVec 7) :
    (x.codeLru set).toNat < 2 :=
  Sparse.get_of_forall (P := fun b : BitVec 3 => b.toNat < 2) (by decide) (h.codeLrus hp) set.toNat

theorem CachesFit.dataLru {c : Config} {x : Caches} (h : CachesFit c x) (hp : c.variant = .p) (set : BitVec 7) :
    (x.dataLru set).toNat < 2 :=
  Sparse.get_of_forall (P := fun b : BitVec 3 => b.toNat < 2) (by decide) (h.dataLrus hp) set.toNat

theorem btbEntryFits_empty (v : Variant) : BtbEntryFits v BtbEntry.empty :=
  ⟨fun _ => ⟨by decide, rfl, rfl, rfl⟩, fun _ => by decide⟩

theorem Fits.btbEntry {s : State} (h : Fits s) (set : BitVec 6) (way bank : BitVec 2) :
    BtbEntryFits s.cfg.variant (s.btbEntry set way bank) :=
  Sparse.get_of_forall (btbEntryFits_empty _) h.btb _

/-! ### What the updates of the caches keep -/

theorem CachesFit.putCode {c : Config} {x : Caches} (h : CachesFit c x) (k : Nat) {l : CodeLine}
    (hl : l.tag.toNat < 2 ^ c.cacheTagBits) : CachesFit c (x.putCode k l) :=
  { h with codeTags := Sparse.forall_put (P := fun l : CodeLine => l.tag.toNat < 2 ^ c.cacheTagBits) h.codeTags k hl }

theorem CachesFit.putData {c : Config} {x : Caches} (h : CachesFit c x) (k : Nat) {l : DataLine}
    (hl : l.tag.toNat < 2 ^ c.cacheTagBits) : CachesFit c (x.putData k l) :=
  { h with dataTags := Sparse.forall_put (P := fun l : DataLine => l.tag.toNat < 2 ^ c.cacheTagBits) h.dataTags k hl }

theorem CachesFit.putCodeLru {c : Config} {x : Caches} (h : CachesFit c x) (set : BitVec 7) {b : BitVec 3}
    (hb : c.variant = .p → b.toNat < 2) : CachesFit c (x.putCodeLru set b) :=
  { h with codeLrus := fun hp => Sparse.forall_put (P := fun b : BitVec 3 => b.toNat < 2) (h.codeLrus hp) _ (hb hp) }

theorem CachesFit.putDataLru {c : Config} {x : Caches} (h : CachesFit c x) (set : BitVec 7) {b : BitVec 3}
    (hb : c.variant = .p → b.toNat < 2) : CachesFit c (x.putDataLru set b) :=
  { h with dataLrus := fun hp => Sparse.forall_put (P := fun b : BitVec 3 => b.toNat < 2) (h.dataLrus hp) _ (hb hp) }

theorem CachesFit.flushCode {c : Config} {x : Caches} (h : CachesFit c x) : CachesFit c x.flushCode :=
  { h with
    codeTags := Sparse.forall_mapAll (d := CodeLine.empty) (f := fun l => { l with valid := false })
      (P := fun l : CodeLine => l.tag.toNat < 2 ^ c.cacheTagBits) h.codeTags fun _ hl => hl }

theorem CachesFit.flushData {c : Config} {x : Caches} (h : CachesFit c x) : CachesFit c x.flushData :=
  { h with
    dataTags := Sparse.forall_mapAll (d := DataLine.empty) (f := fun l => { l with state := .invalid })
      (P := fun l : DataLine => l.tag.toNat < 2 ^ c.cacheTagBits) h.dataTags fun _ hl => hl }

/-! ### Values of the variant's width -/

theorem clipLru_lt (x : BitVec 3) : (clipLru .p x).toNat < 2 := toNat_and_lt x 1 (by decide)

theorem clipTag_lt (c : Config) (x : BitVec 23) : (clipTag c x).toNat < 2 ^ c.cacheTagBits := by
  rw [clipTag, BitVec.toNat_ofNat]
  exact lt_of_le_of_lt (Nat.mod_le _ _) (Nat.mod_lt _ (Nat.two_pow_pos _))

theorem clipBtb_fits (v : Variant) (e : BtbEntry) : BtbEntryFits v (clipBtb v e) := by
  cases v with
  | p => exact ⟨fun _ => ⟨toNat_and_lt e.history 3 (by decide), rfl, rfl, rfl⟩, nofun⟩
  | pmmx =>
    refine ⟨nofun, fun _ => ?_⟩
    simp only [clipBtb, BitVec.toNat_ofNat]
    exact lt_of_le_of_lt (Nat.mod_le _ _) (Nat.mod_lt _ (by decide))

theorem tr4Fits_unpack {c : Config} (hc : c.check = true) (v : Quad) : Tr4Fits c (unpackTr4 c v) := by
  obtain ⟨tag, lru, -, -, -⟩ := check_widths hc
  refine ⟨tag ▸ fieldBits_lt 23 c.tr4.tag v, fun hp => ?_⟩
  rw [hp] at lru
  exact lt_of_lt_of_eq (fieldBits_lt 3 c.tr4.lru v) (by rw [lru]; rfl)

theorem entryFits_p {e : BitVec 2} (h : entryFits .p e = true) : e.toNat < 2 := by
  revert e
  decide

theorem tr5Fits_unpack {c : Config} (hc : c.check = true) (v : Quad) : Tr5Fits c.variant (unpackTr5 c v) := by
  obtain ⟨-, -, entry, -, -⟩ := check_widths hc
  intro hp
  rw [hp] at entry
  exact lt_of_lt_of_eq (fieldBits_lt 2 c.tr5.entry v) (by rw [entry]; rfl)

theorem tr7Fits_unpack {c : Config} (hc : c.check = true) (v : Quad) : Tr7Fits c.variant (unpackTr7 c v) := by
  obtain ⟨-, -, -, lru, entry⟩ := check_widths hc
  refine ⟨fun hp => ?_, fun hm => ?_⟩
  · rw [hp] at entry
    exact lt_of_lt_of_eq (fieldBits_lt 6 c.tr7.entry v) (by rw [entry]; rfl)
  · rw [hm] at lru
    simp [unpackTr7, List.length_eq_zero_iff.mp lru, fieldBits, fieldNat]

theorem TagSource.lt {s : State} (h : Fits s) {tag : BitVec 23} (ht : TagSource s tag) :
    tag.toNat < 2 ^ s.cfg.cacheTagBits := by
  cases ht with
  | tr4 => exact h.tr4.1
  | clipped x => exact clipTag_lt _ x
  | codeLine k => exact h.caches.codeLine k
  | dataLine k => exact h.caches.dataLine k

theorem Tr4Source.fits {s : State} (hc : s.cfg.check = true) (h : Fits s) {f : Tr4} (hf : Tr4Source s f) :
    Tr4Fits s.cfg f := by
  cases hf with
  | kept => exact h.tr4
  | unpacked v => exact tr4Fits_unpack hc v
  | codeLine k set lru valid source =>
    refine ⟨h.caches.codeLine k, fun hp => ?_⟩
    rcases source with rfl | ⟨x, rfl⟩
    · exact h.caches.codeLru hp set
    · rw [hp]
      exact clipLru_lt x
  | dataLine k set valid => exact ⟨h.caches.dataLine k, fun hp => h.caches.dataLru hp set⟩

theorem Tr5Source.fits {s : State} (hc : s.cfg.check = true) (h : Fits s) {f : Tr5} (hf : Tr5Source s f) :
    Tr5Fits s.cfg.variant f := by
  cases hf with
  | kept => exact h.tr5
  | unpacked v => exact tr5Fits_unpack hc v
  | latched _ entry =>
    intro hp
    rw [hp] at entry
    exact entryFits_p entry

theorem Tr7Source.fits {s : State} (hc : s.cfg.check = true) (h : Fits s) {f : Tr7} (hf : Tr7Source s f) :
    Tr7Fits s.cfg.variant f := by
  cases hf with
  | kept => exact h.tr7
  | unpacked v => exact tr7Fits_unpack hc v
  | read _ entry lru => exact ⟨entry, fun hm => (lru hm).trans (h.tr7.2 hm)⟩

/-! ### The BTB -/

theorem lowHalf_reserved_tr9 {c : Config} {v : Quad} (hp : c.variant = .p) (h : hasReservedOne c .tr9 v = false) :
    (lowHalf v).extractLsb' 2 4 = 0 := by
  have free := noReservedOne_iff.mpr h
  apply BitVec.eq_of_getLsbD_eq
  intro i hi
  have bit := free (2 + i)
  have masked : ∀ i < 4, (0xFFFFFFC3 : Quad).getLsbD (2 + i) = false := by decide
  simp only [msrMask, hp, masked i hi] at bit
  have low : 2 + i < 32 := by omega
  simpa [lowHalf, hi, low] using bit

theorem reserved_tr12 {c : Config} {v : Quad} (hp : c.variant = .p) (h : hasReservedOne c .tr12 v = false) :
    v.extractLsb' 19 2 = 0 := by
  have free := noReservedOne_iff.mpr h
  apply BitVec.eq_of_getLsbD_eq
  intro i hi
  have bit := free (19 + i)
  have masked : ∀ i < 2, (0x30F : Quad).getLsbD (19 + i) = false := by decide
  simp only [msrMask, hp, masked i hi] at bit
  simpa [hi] using bit

theorem packTr11_lt (f : Tr11) : (lowHalf (packTr11 .p f)).toNat < 2 ^ 12 := by
  rw [lowHalf_toNat]
  refine lt_of_le_of_lt (Nat.mod_le _ _) ?_
  simp only [packTr11, BitVec.toNat_or]
  have low (ps : List Nat) (x : Nat) (h : ∀ p ∈ ps, p < 12) := placeField_lt h x
  exact Nat.or_lt_two_pow (Nat.or_lt_two_pow (Nat.or_lt_two_pow (Nat.or_lt_two_pow (low _ _ (by decide))
    (low _ _ (by decide))) (low _ _ (by decide))) (low _ _ (by decide))) (low _ _ (by decide))

theorem tr9AfterReadP_reserved (x : Word) (e : BtbEntry) :
    (tr9AfterReadP x e).extractLsb' 2 4 = x.extractLsb' 2 4 := by
  apply BitVec.eq_of_getLsbD_eq
  intro i hi
  have masked : ∀ i < 4, (0xFFFFFFC3 : Word).getLsbD (2 + i) = false := by decide
  have low : 2 + i < 32 := by omega
  simp only [tr9AfterReadP, replaceBits, BitVec.getLsbD_extractLsb', BitVec.getLsbD_or, BitVec.getLsbD_and,
    BitVec.getLsbD_not, masked i hi]
  simp [low]

theorem btbEntryPmmx_fits (f : Tr11) (s : State) : BtbEntryFits .pmmx (btbEntryPmmx f s) := by
  refine ⟨nofun, fun _ => ?_⟩
  simp only [btbEntryPmmx, tr9Tag, BitVec.toNat_setWidth]
  exact lt_of_le_of_lt (Nat.mod_le _ _) (BitVec.isLt _)

theorem btbEntryP_fits {old : BtbEntry} (h : BtbEntryFits .p old) (s : State) :
    BtbEntryFits .p (btbEntryP old s) := by
  obtain ⟨-, offset, prediction, btype⟩ := h.1 rfl
  refine ⟨fun _ => ⟨?_, offset, prediction, btype⟩, nofun⟩
  simp only [btbEntryP, tr9History, BitVec.toNat_setWidth]
  exact lt_of_le_of_lt (Nat.mod_le _ _) (BitVec.isLt _)

/-! ### The updates -/

theorem Fits.of_sameData {s t : State} (h : Fits s) (k : SameData s t) : Fits t where
  tr4 := by rw [k.cfg, k.tr4]; exact h.tr4
  tr5 := by rw [k.cfg, k.tr5]; exact h.tr5
  tr7 := by rw [k.cfg, k.tr7]; exact h.tr7
  caches := by rw [k.cfg, k.caches]; exact h.caches
  btb := by rw [k.cfg, k.btb]; exact h.btb
  btbTest := by rw [k.cfg, BtbTestFits, k.tr9, k.tr11]; exact h.btbTest
  tr12 := by rw [k.cfg, k.tr12]; exact h.tr12

/-- After RESET every field is zero and every array empty (rule R80; logs 4, 5). -/
theorem fits_afterReset (s : State) : Fits s.afterReset where
  tr4 := ⟨Nat.two_pow_pos _, fun _ => Nat.zero_lt_succ _⟩
  tr5 := fun _ => Nat.zero_lt_succ _
  tr7 := ⟨fun _ => Nat.zero_lt_succ _, fun _ => rfl⟩
  caches := ⟨nofun, nofun, fun _ => nofun, fun _ => nofun⟩
  btb := nofun
  btbTest := fun _ => ⟨show (0 : Word).extractLsb' 2 4 = 0 by decide, Nat.two_pow_pos 12⟩
  tr12 := fun _ => show (0 : Quad).extractLsb' 19 2 = 0 by decide

theorem btbReadData_fits {s : State} (h : Fits s) (f : Tr11) : Fits (btbReadData f s) := by
  refine ⟨h.tr4, h.tr5, h.tr7, h.caches, h.btb, fun hp => ?_, h.tr12⟩
  have hp : s.cfg.variant = .p := hp
  obtain ⟨tr9, tr11⟩ := h.btbTest hp
  simp only [btbReadData, hp, advance_btbTest, withBtbTest_btbTest]
  exact ⟨(tr9AfterReadP_reserved _ _).trans tr9, tr11⟩

theorem Update.fits {s t : State} (hc : s.cfg.check = true) (h : Fits s) (k : Update s t) : Fits t := by
  have stored {set : BitVec 6} {way bank : BitVec 2} {e : BtbEntry} (he : BtbEntryFits s.cfg.variant e) :
      Fits (s.putBtbEntry set way bank e) :=
    ⟨h.tr4, h.tr5, h.tr7, h.caches, Sparse.forall_put h.btb _ he, h.btbTest, h.tr12⟩
  have cached {x : Caches} (hx : CachesFit s.cfg x) : Fits (s.withCaches x) :=
    ⟨h.tr4, h.tr5, h.tr7, hx, h.btb, h.btbTest, h.tr12⟩
  have btbTest {x : BtbTest} (hx : BtbTestFits s.cfg.variant x) : Fits (s.withBtbTest x) :=
    ⟨h.tr4, h.tr5, h.tr7, h.caches, h.btb, hx, h.tr12⟩
  cases k with
  | elsewhere same => exact h.of_sameData same
  | reset => exact fits_afterReset s
  | cacheTest x h4 h5 => exact ⟨h4.fits hc h, h5.fits hc h, h.tr7, h.caches, h.btb, h.btbTest, h.tr12⟩
  | tlbTest x h7 => exact ⟨h.tr4, h.tr5, h7.fits hc h, h.caches, h.btb, h.btbTest, h.tr12⟩
  | tr9 v hv => exact btbTest fun hp => ⟨lowHalf_reserved_tr9 hp hv, (h.btbTest hp).2⟩
  | latchTr11 f => exact btbTest fun hp => ⟨(h.btbTest hp).1, by rw [hp]; exact packTr11_lt f⟩
  | btbReadData f => exact btbReadData_fits h f
  | btbReadTag f hm =>
    exact ⟨h.tr4, h.tr5, h.tr7, h.caches, h.btb, fun hp => absurd (hm.symm.trans hp) (by decide), h.tr12⟩
  | tr12 v hv => exact ⟨h.tr4, h.tr5, h.tr7, h.caches, h.btb, h.btbTest, fun hp => reserved_tr12 hp hv⟩
  | codeLine _ l hl => exact cached (h.caches.putCode _ (hl.lt h))
  | dataLine _ l hl => exact cached (h.caches.putData _ (hl.lt h))
  | codeLru set x => exact cached (h.caches.putCodeLru set fun hp => by rw [hp]; exact clipLru_lt x)
  | dataLru set x => exact cached (h.caches.putDataLru set fun hp => by rw [hp]; exact clipLru_lt x)
  | flushCode => exact cached h.caches.flushCode
  | flushData => exact cached h.caches.flushData
  | btbAllocate set bank way e =>
    unfold btbAllocateMove
    split
    · exact stored (clipBtb_fits _ e)
    · exact h
  | btbRelease set bank way =>
    unfold btbReleaseMove
    split
    · exact stored (h.btbEntry set way bank)
    · exact h
  | btbStorePmmx f way hm _ => exact stored (by rw [hm]; exact btbEntryPmmx_fits f s)
  | btbStoreP f hp => exact stored (by rw [hp]; exact btbEntryP_fits (hp ▸ h.btbEntry _ _ _) s)
  | flushBtb =>
    exact ⟨h.tr4, h.tr5, h.tr7, h.caches,
      Sparse.forall_mapAll (d := BtbEntry.empty) (f := fun e => { e with valid := false })
        (P := BtbEntryFits s.cfg.variant) h.btb fun _ he => he, h.btbTest, h.tr12⟩
  | storeByte | storeLine | tlbEntry | tlbLru | flushTlbs =>
    exact ⟨h.tr4, h.tr5, h.tr7, h.caches, h.btb, h.btbTest, h.tr12⟩

theorem Updates.fits {s t : State} (hc : s.cfg.check = true) (h : Fits s) (k : Updates s t) : Fits t := by
  induction k with
  | refl => exact h
  | tail first last ih => exact last.fits (Updates.cfg first ▸ hc) ih

/-- Settles O8: a step is a sequence of elementary updates, and each keeps the width of every field. -/
theorem stepKeepsFieldsFit : Obligations.StepKeepsFieldsFit := by
  intro s t hc hs h
  exact ((step_updates h).fits hc (fits_of_fieldsFit hs)).fieldsFit

end Sys2Proof.Machine

/-!
PROOF. The step of a running core: its fetch, as code accesses with three outcomes, and the instruction between the
clocks (O4).
-/

namespace Sys2Proof.Machine

/-! ### How an access by normal operation ends -/

/-- An access leaves NS, and the run as it was or, with NS = 0, in shutdown (rules R284, R287). -/
structure AccessEnds (s t : State) : Prop where
  ns : t.parity.ns = s.parity.ns
  run : t.run = s.run ∨ (s.parity.ns = false ∧ t.run = .shutdown)

theorem AccessEnds.refl (s : State) : AccessEnds s s := ⟨rfl, .inl rfl⟩

theorem AccessEnds.trans {s t u : State} (h : AccessEnds s t) (k : AccessEnds t u) : AccessEnds s u := by
  refine ⟨k.ns.trans h.ns, ?_⟩
  rcases k.run with same | ⟨ns, down⟩
  · rw [same]
    exact h.run
  · exact .inr ⟨h.ns ▸ ns, down⟩

theorem AccessEnds.useDraws {s t : State} (h : AccessEnds s t) (n : Nat) : AccessEnds s (t.useDraws n) :=
  ⟨h.ns, h.run⟩

theorem parityError_ends (s : State) : AccessEnds s (parityError s) := by
  refine ⟨by simp, ?_⟩
  rw [parityError_run]
  cases s.parity.ns <;> simp

theorem invalidateDataLine_ends (k : Nat) (a : BitVec 7) (s : State) : AccessEnds s (invalidateDataLine k a s) := by
  obtain ⟨m, tr, oc, e⟩ := invalidateDataLine_state k a s
  rw [e]
  exact ⟨rfl, .inl rfl⟩

theorem giveUpDataLines_ends (a : BitVec 7) (keys : List Nat) (s : State) :
    AccessEnds s (giveUpDataLines a id keys s) := by
  induction keys generalizing s with
  | nil => exact .refl s
  | cons k keys ih =>
    unfold giveUpDataLines
    rcases giveUpDataLine_cases k a (giveUpDataLines a id keys) s with h | ⟨-, h⟩ | ⟨-, h⟩ <;> rw [h]
    · exact (invalidateDataLine_ends k a s).trans (ih _)
    · exact ((parityError_ends s).trans (invalidateDataLine_ends k a _)).trans (ih _)
    · exact parityError_ends s

theorem codeFetchMove_ends {a : Word} {s t : State} (h : codeFetchMove a s = .next t) : AccessEnds s t := by
  unfold codeFetchMove at h
  split at h
  · cases h
    exact (giveUpDataLines_ends _ _ s).useDraws 1
  · cases h
    rename_i k _
    rcases checkParity_cases (codeReadBad (s.caches.codeLine k) (addressPortion a) (s.freeBool 0)) s id with
      ⟨-, e⟩ | ⟨-, -, e⟩ | ⟨-, -, e⟩ <;> rw [e]
    · exact (AccessEnds.refl s).useDraws 1
    · exact (parityError_ends s).useDraws 1
    · exact (parityError_ends s).useDraws 1
  · cases h

/-! ### The fetch -/

/-- What a fetch that does not end the step may have changed (rules R110, R284). -/
abbrev fetchParts : List Part := [.parity, .caches, .memory, .trace, .occurred, .draws]

/-- With the run as it was, an access keeps what a fetch keeps. -/
theorem keptBut_fetchParts {s t : State} (h : KeptBut (.draws :: accessParts) s t) (run : t.run = s.run) :
    KeptBut fetchParts s t := by
  refine ⟨h.1, fun p hp => ?_⟩
  by_cases e : p = .run
  · subst e
    exact run
  · exact h.2 p (by cases p <;> simp_all)

/-- The outcomes of a step that fetches and goes on with `k` (rules R110, R189, R287). -/
def FetchOutcome (k : State → Result) (s : State) (r : Result) : Prop :=
  (∃ u, KeptBut fetchParts s u ∧ u.parity.ns = s.parity.ns ∧ r = k u) ∨
  (s.parity.ns = false ∧ ∃ u, r = .next u ∧ u.run = .shutdown ∧ u.core = s.core) ∨
  r = .refused .cacheDoubleHit

theorem afterCodeAccess_outcome (a : Word) (k : State → Result) {s : State} (hr : s.run ≠ .shutdown) :
    FetchOutcome k s (afterCodeAccess a k s) := by
  unfold afterCodeAccess
  rcases codeFetchMove_cases (physicalAddress s a) s with e | ⟨t, e, kept⟩
  · simp only [e]
    exact .inr (.inr rfl)
  · have ends := codeFetchMove_ends e
    simp only [e]
    rcases ends.run with same | ⟨ns, down⟩
    · rw [if_neg (same ▸ hr)]
      exact .inl ⟨t, keptBut_fetchParts kept same, ends.ns, rfl⟩
    · rw [if_pos down]
      exact .inr (.inl ⟨ns, idleClocks t, rfl, down, kept.2 .core (by decide)⟩)

/-- A second access after a first. -/
theorem FetchOutcome.bind {k l : State → Result} {s : State} {r : Result} (h : FetchOutcome l s r)
    (hl : ∀ u, KeptBut fetchParts s u → FetchOutcome k u (l u)) : FetchOutcome k s r := by
  rcases h with ⟨u, kept, ns, rfl⟩ | down | refused
  · rcases hl u kept with ⟨v, kept', ns', e⟩ | ⟨ns', v, e, down, core⟩ | refused
    · exact .inl ⟨v, kept.trans kept', ns'.trans ns, e⟩
    · exact .inr (.inl ⟨ns ▸ ns', v, e, down, core.trans (kept.2 .core (by decide))⟩)
    · exact .inr (.inr refused)
  · exact .inr (.inl down)
  · exact .inr (.inr refused)

theorem fetched_outcome (n : Nat) (k : State → Result) {s : State} (hr : s.run ≠ .shutdown) :
    FetchOutcome k s (fetched n k s) := by
  refine (afterCodeAccess_outcome _ _ hr).bind fun u kept => ?_
  split
  · exact .inl ⟨u, .refl _ u, rfl, rfl⟩
  · exact afterCodeAccess_outcome _ k ((kept.2 .run (by decide) : u.run = s.run) ▸ hr)

/-- A quiet access uses up one free value and changes nothing else (log 26). -/
theorem codeFetchMove_quiet {a : Word} {s : State} (h : QuietFetch s a) :
    codeFetchMove a s = .next (s.useDraws 1) := by
  unfold codeFetchMove
  rcases h with ⟨code, data⟩ | ⟨k, code, tag, bits⟩
  · simp [code, snoopData, data, giveUpDataLines]
  · have good : codeReadBad (s.caches.codeLine k) (addressPortion a) (s.freeBool 0) = false := by
      simp [codeReadBad, tag, bits]
    simp [code, checkParity, good]

theorem afterCodeAccess_quiet {a : Word} {s : State} (k : State → Result) (hr : s.run ≠ .shutdown)
    (pg : s.core.cr0.getLsbD 31 = false) (h : QuietFetch s a) :
    afterCodeAccess a k s = k (s.useDraws 1) := by
  have phys : physicalAddress s a = a := by rw [physicalAddress, Core.pg, pg]; rfl
  simp [afterCodeAccess, phys, codeFetchMove_quiet h, hr]

/-- A fetch whose accesses are quiet uses up free values and changes nothing else (log 26). -/
theorem fetched_quiet {n : Nat} {s : State} (k : State → Result) (hr : s.run ≠ .shutdown)
    (pg : s.core.cr0.getLsbD 31 = false)
    (h : ∀ a ∈ [s.core.eip, s.core.eip + BitVec.ofNat 32 (n - 1)], QuietFetch s a) :
    ∃ m, fetched n k s = k (s.useDraws m) := by
  simp only [List.forall_mem_cons] at h
  obtain ⟨first, last, -⟩ := h
  unfold fetched
  dsimp only
  rw [afterCodeAccess_quiet _ hr pg first]
  split
  · exact ⟨1, rfl⟩
  · exact ⟨2, afterCodeAccess_quiet (s := s.useDraws 1) k hr pg last⟩

/-! ### The step of a running core -/

theorem step_coreTurn {s : State} (running : s.run = .running) (turn : CoreTurn s)
    (mc : s.parity.mcBadPending = false) : step s = runInstruction s.turnTaken := by
  have core := nextTurn_core turn
  rw [step_turn (by rw [core]; nofun), if_neg (by rw [running]; nofun), core]
  have hr : s.turnTaken.run = .running := running
  rcases afterMicrocodeCheck_cases (takeTurn .core) s.turnTaken (by rw [hr]; nofun) with
    ⟨-, e⟩ | ⟨pending, -⟩ | ⟨pending, -⟩
  · rw [e, takeTurn, coreTurn, hr]
  · exact absurd (mc.symm.trans pending) (by decide)
  · exact absurd (mc.symm.trans pending) (by decide)

theorem runInstruction_ok {s : State} {i : Instr} (h : decodeAt s = .ok i) :
    runInstruction s = fetched (instrLength i) (executeInstruction i) s := by
  rw [runInstruction, h]

theorem runInstruction_error {s : State} {e : DecodeError} (h : decodeAt s = .error e) :
    runInstruction s = .refused (.undecodable e) := by
  rw [runInstruction, h]

/-- An instruction is `exec` between the clocks of its step (rule R325). -/
theorem executeInstruction_of_exec (i : Instr) (u : State) :
    (∀ t, exec i (beforeInstruction u) = .next t → executeInstruction i u = .next (afterInstruction u.draws t)) ∧
    (∀ f, exec i (beforeInstruction u) = .fault f → executeInstruction i u = .fault f) ∧
    (∀ r, exec i (beforeInstruction u) = .refused r → executeInstruction i u = .refused r) := by
  refine ⟨fun t h => ?_, fun f h => ?_, fun r h => ?_⟩ <;> rw [executeInstruction, h]

theorem beforeInstruction_kept (s : State) : KeptBut [.perf, .draws] s (beforeInstruction s) :=
  ⟨rfl, fun p hp => by cases p <;> simp_all [Part.kept, beforeInstruction]⟩

theorem afterInstruction_kept (d : Nat) (t : State) : KeptBut [.perf, .occurred] t (afterInstruction d t) :=
  ⟨rfl, fun p hp => by cases p <;> simp_all [Part.kept, afterInstruction]⟩

/-- Settles O4: the step is the fetch of the decoded instruction, whose accesses have three outcomes, and then `exec`
between the clocks. -/
theorem stepRunsDecodedInstruction : Obligations.StepRunsDecodedInstruction := by
  intro s running turn mc
  have hr : s.turnTaken.run ≠ .shutdown := by
    rw [show s.turnTaken.run = .running from running]
    nofun
  rw [step_coreTurn running turn mc]
  refine ⟨fun i hi => ⟨?_, fun pg quiet => ?_⟩, executeInstruction_of_exec, fun e he => ?_,
    beforeInstruction_kept s, afterInstruction_kept s.draws⟩
  · rw [runInstruction_ok (s := s.turnTaken) hi]
    exact (fetched_outcome _ _ hr).imp_left fun ⟨u, kept, _, e⟩ => ⟨u, kept, e⟩
  · rw [runInstruction_ok (s := s.turnTaken) hi]
    exact fetched_quiet (s := s.turnTaken) _ hr pg quiet
  · exact runInstruction_error (s := s.turnTaken) he

end Sys2Proof.Machine

/-!
PROOF. The canonical form of memory and of the arrays (O7): each elementary update stores at keys its array has.
-/

namespace Sys2Proof.Machine

/-! ### Keys -/

/-- The keys of a set's ways lie among the 512 keys of a cache and name ways of the variant (rules R8, R60). -/
theorem wayKeys_bounds {v : Variant} {set : BitVec 7} {k : Nat} (h : k ∈ wayKeys v set) :
    k < 512 ∧ k % 4 < v.cacheWays := by
  obtain ⟨w, hw, rfl⟩ := List.mem_map.mp h
  have hw := List.mem_range.mp hw
  have ways : v.cacheWays ≤ 4 := by cases v <;> decide
  have key := lineKey_lt set (lt_of_lt_of_le hw ways)
  unfold lineKey at *
  omega

/-- The keys of BTB entries lie below 256 (rules R8, R65). -/
theorem btbKey_lt {v : Variant} {set : BitVec 6} (way bank : BitVec 2) (h : set.toNat < v.btbSets) :
    btbKey v set way bank < 256 := by
  have hw := way.isLt
  have hb := bank.isLt
  cases v <;> simp only [btbKey, Variant.btbSets] at * <;> omega

theorem waysExist_put {α : Type} [DecidableEq α] {v : Variant} {d : α} {m : Sparse α} {k : Nat}
    (h : waysExist v m) (hk : k % 4 < v.cacheWays) (x : α) : waysExist v (Sparse.put d m k x) := by
  intro p hp
  rcases Sparse.key_of_mem_put hp with rfl | hp
  · exact hk
  · exact h p hp

theorem waysExist_mapAll {α : Type} [DecidableEq α] {v : Variant} {d : α} {m : Sparse α}
    (h : waysExist v m) (f : α → α) : waysExist v (Sparse.mapAll d f m) := by
  intro p hp
  obtain ⟨q, hq, key, -⟩ := Sparse.key_of_mem_mapAll hp
  exact key ▸ h q hq

/-! ### The caches -/

section Caches
variable {v : Variant} {c : Caches}

theorem putCode_canonical {set : BitVec 7} {k : Nat} (h : c.Canonical v) (hk : k ∈ wayKeys v set) (l : CodeLine) :
    (c.putCode k l).Canonical v := by
  obtain ⟨code, codeWays, rest⟩ := h
  obtain ⟨below, way⟩ := wayKeys_bounds hk
  exact ⟨Sparse.canonical_put code below l, waysExist_put codeWays way l, rest⟩

theorem putData_canonical {set : BitVec 7} {k : Nat} (h : c.Canonical v) (hk : k ∈ wayKeys v set) (l : DataLine) :
    (c.putData k l).Canonical v := by
  obtain ⟨code, codeWays, codeLru, data, dataWays, dataLru⟩ := h
  obtain ⟨below, way⟩ := wayKeys_bounds hk
  exact ⟨code, codeWays, codeLru, Sparse.canonical_put data below l, waysExist_put dataWays way l, dataLru⟩

theorem putCodeLru_canonical (h : c.Canonical v) (set : BitVec 7) (x : BitVec 3) :
    (c.putCodeLru set x).Canonical v := by
  obtain ⟨code, codeWays, codeLru, rest⟩ := h
  exact ⟨code, codeWays, Sparse.canonical_put codeLru set.isLt x, rest⟩

theorem putDataLru_canonical (h : c.Canonical v) (set : BitVec 7) (x : BitVec 3) :
    (c.putDataLru set x).Canonical v := by
  obtain ⟨code, codeWays, codeLru, data, dataWays, dataLru⟩ := h
  exact ⟨code, codeWays, codeLru, data, dataWays, Sparse.canonical_put dataLru set.isLt x⟩

theorem flushCode_canonical (h : c.Canonical v) : c.flushCode.Canonical v := by
  obtain ⟨code, codeWays, rest⟩ := h
  exact ⟨Sparse.canonical_mapAll code fun l => { l with valid := false },
    waysExist_mapAll codeWays fun l => { l with valid := false }, rest⟩

theorem flushData_canonical (h : c.Canonical v) : c.flushData.Canonical v := by
  obtain ⟨code, codeWays, codeLru, data, dataWays, dataLru⟩ := h
  exact ⟨code, codeWays, codeLru, Sparse.canonical_mapAll data fun l => { l with state := .invalid },
    waysExist_mapAll dataWays fun l => { l with state := .invalid }, dataLru⟩

end Caches

/-! ### The TLBs -/

theorem putEntry_canonical {v : Variant} {t : Tlbs} {n : TlbName} (h : t.Canonical) (hn : tlbOf v n = n)
    (la : BitVec 20) (entry : BitVec 6) (e : TlbEntry) : (t.putEntry n (tlbKey v n la entry) e).Canonical := by
  obtain ⟨code, data, data4M, lrus⟩ := h
  have below := tlbKey_lt v n la entry
  rw [hn] at below
  cases n with
  | code => exact ⟨Sparse.canonical_put code below e, data, data4M, lrus⟩
  | data4K => exact ⟨code, Sparse.canonical_put data below e, data4M, lrus⟩
  | data4M => exact ⟨code, data, Sparse.canonical_put data4M below e, lrus⟩

theorem putLru_canonical {t : Tlbs} {n : TlbName} {set : Nat} (h : t.Canonical) (hs : set < tlbSets n)
    (x : BitVec 3) : (t.putLru n set x).Canonical := by
  obtain ⟨code, data, data4M, codeLru, dataLru, data4MLru⟩ := h
  cases n with
  | code => exact ⟨code, data, data4M, Sparse.canonical_put codeLru hs x, dataLru, data4MLru⟩
  | data4K => exact ⟨code, data, data4M, codeLru, Sparse.canonical_put dataLru hs x, data4MLru⟩
  | data4M => exact ⟨code, data, data4M, codeLru, dataLru, Sparse.canonical_put data4MLru hs x⟩

theorem flushTlb_canonical {b : Nat} {t : Sparse TlbEntry} (h : Sparse.Canonical TlbEntry.empty b t) :
    Sparse.Canonical TlbEntry.empty b (flushTlb t) := Sparse.canonical_mapAll h _

theorem tlbsFlush_canonical {t : Tlbs} (h : t.Canonical) : t.flush.Canonical := by
  obtain ⟨code, data, data4M, lrus⟩ := h
  exact ⟨flushTlb_canonical code, flushTlb_canonical data, flushTlb_canonical data4M, lrus⟩

theorem flushBtb_canonical {b : Sparse BtbEntry} (h : Sparse.Canonical BtbEntry.empty 256 b) :
    Sparse.Canonical BtbEntry.empty 256 (flushBtb b) := Sparse.canonical_mapAll h _

/-! ### The updates -/

/-- Empty arrays are in canonical form, so the state after RESET is when its memories are. -/
theorem canonical_of_empty {s : State} (caches : s.caches = ⟨[], [], [], []⟩) (tlbs : s.tlbs = ⟨[], [], [], [], [], []⟩)
    (btb : s.btb = []) (mem : s.mem.wf) (code : s.code.wf) : s.Canonical := by
  unfold State.Canonical
  rw [caches, tlbs, btb]
  have nil {α : Type} [DecidableEq α] (d : α) (b : Nat) := Sparse.canonical_nil d b
  exact ⟨⟨nil _ _, nofun, nil _ _, nil _ _, nofun, nil _ _⟩, ⟨nil _ _, nil _ _, nil _ _, nil _ _, nil _ _, nil _ _⟩,
    nil _ _, mem, code⟩

theorem SameData.canonical {s t : State} (k : SameData s t) (h : s.Canonical) : t.Canonical := by
  unfold State.Canonical at *
  rwa [k.cfg, k.caches, k.tlbs, k.btb, k.mem, k.code]

theorem Update.canonical {s t : State} (h : s.Canonical) (k : Update s t) : t.Canonical := by
  obtain ⟨caches, tlbs, btb, mem, code⟩ := h
  have cached {x : Caches} (hx : x.Canonical s.cfg.variant) : (s.withCaches x).Canonical := ⟨hx, tlbs, btb, mem, code⟩
  have stored {set : BitVec 6} (way bank : BitVec 2) (e : BtbEntry) (hs : set.toNat < s.cfg.variant.btbSets) :
      (s.putBtbEntry set way bank e).Canonical :=
    ⟨caches, tlbs, Sparse.canonical_put btb (btbKey_lt way bank hs) e, mem, code⟩
  cases k with
  | elsewhere same => exact same.canonical ⟨caches, tlbs, btb, mem, code⟩
  | reset => exact canonical_of_empty rfl rfl rfl mem code
  | storeByte a b => exact ⟨caches, tlbs, btb, writeByte_wf mem a.isLt b, code⟩
  | storeLine tag set d => exact ⟨caches, tlbs, btb, writeLine_wf mem s.cfg tag set d, code⟩
  | codeLine hk l => exact cached (putCode_canonical caches hk l)
  | dataLine hk l => exact cached (putData_canonical caches hk l)
  | codeLru set x => exact cached (putCodeLru_canonical caches set _)
  | dataLru set x => exact cached (putDataLru_canonical caches set _)
  | flushCode => exact cached (flushCode_canonical caches)
  | flushData => exact cached (flushData_canonical caches)
  | tlbEntry n la entry e hn => exact ⟨caches, putEntry_canonical tlbs hn la entry e, btb, mem, code⟩
  | tlbLru n set x hs => exact ⟨caches, putLru_canonical tlbs hs x, btb, mem, code⟩
  | flushTlbs => exact ⟨caches, tlbsFlush_canonical tlbs, btb, mem, code⟩
  | btbAllocate set bank way e =>
    unfold btbAllocateMove
    split
    · rename_i allowed
      exact stored way bank _ allowed.2
    · exact ⟨caches, tlbs, btb, mem, code⟩
  | btbRelease set bank way =>
    unfold btbReleaseMove
    split
    · rename_i hs
      exact stored way bank _ hs
    · exact ⟨caches, tlbs, btb, mem, code⟩
  | btbStorePmmx f way hm hs => exact stored way f.bank _ (by rw [hm]; exact hs)
  | btbStoreP f hp => exact stored f.way f.bank _ (by rw [hp]; exact f.set.isLt)
  | flushBtb => exact ⟨caches, tlbs, flushBtb_canonical btb, mem, code⟩
  | cacheTest | tlbTest | tr9 | latchTr11 | btbReadData | btbReadTag | tr12 => exact ⟨caches, tlbs, btb, mem, code⟩

theorem Updates.canonical {s t : State} (h : s.Canonical) (k : Updates s t) : t.Canonical := by
  induction k with
  | refl => exact h
  | tail _ last ih => exact last.canonical ih

/-- Settles O7: a step is a sequence of elementary updates, and each keeps the canonical form. -/
theorem stepKeepsCanonical : Obligations.StepKeepsCanonical := by
  intro s t h k
  exact (step_updates k).canonical h

end Sys2Proof.Machine

/-!
PROOF. Bit fields: the fields placed in a register value read back, and free bits outside them do not matter (rules
R10, R11, R23).
-/

namespace Sys2Proof.Machine

/-! ### Bits -/

theorem getLsbD_maskOf (ps : List Nat) (n : Nat) : (maskOf ps).getLsbD n = (decide (n < 64) && decide (n ∈ ps)) := by
  induction ps with
  | nil => simp [maskOf]
  | cons p ps ih =>
    rw [maskOf, BitVec.getLsbD_or, ih, BitVec.getLsbD_twoPow]
    by_cases h : p = n
    · subst h
      simpa using fun lt _ => lt
    · simp [h, Ne.symm h]

/-- The mask of a field has a one at each of its positions. -/
theorem maskOf_of_mem {ps : List Nat} {p : Nat} (hp : p ∈ ps) (lt : p < 64) : (maskOf ps).getLsbD p = true := by
  simp [getLsbD_maskOf, hp, lt]

theorem placeField_of_not_mem {ps : List Nat} {n : Nat} (h : n ∉ ps) (x : Nat) :
    (placeField ps x).getLsbD n = false := by
  induction ps generalizing x with
  | nil => simp [placeField]
  | cons p ps ih =>
    rw [List.mem_cons, not_or] at h
    rw [placeField, BitVec.getLsbD_or, ih h.2]
    split <;> simp [BitVec.getLsbD_twoPow, Ne.symm h.1]

theorem getLsbD_withFreeBits (mask value free : Quad) (n : Nat) :
    (withFreeBits mask value free).getLsbD n = if mask.getLsbD n then value.getLsbD n else free.getLsbD n := by
  by_cases hn : n < 64
  · simp only [withFreeBits, BitVec.getLsbD_or, BitVec.getLsbD_and, BitVec.getLsbD_not, hn, decide_true, Bool.true_and]
    cases mask.getLsbD n <;> simp
  · simp [BitVec.getLsbD_of_ge _ n (Nat.le_of_not_lt hn)]

theorem mem_bitRange {hi lo p : Nat} : p ∈ bitRange hi lo ↔ lo ≤ p ∧ p ≤ hi := by
  simp only [bitRange, List.mem_map, List.mem_range]
  constructor
  · rintro ⟨i, hi, rfl⟩
    omega
  · exact fun h => ⟨p - lo, by omega, by omega⟩

/-! ### One field -/

/-- A field is read from its own bits only. -/
theorem fieldNat_congr {ps : List Nat} {v w : Quad} (h : ∀ p ∈ ps, v.getLsbD p = w.getLsbD p) :
    fieldNat ps v = fieldNat ps w := by
  induction ps with
  | nil => rfl
  | cons p ps ih =>
    rw [List.forall_mem_cons] at h
    rw [fieldNat, fieldNat, h.1, ih h.2]

theorem fieldBits_congr {w : Nat} {ps : List Nat} {x y : Quad} (h : ∀ p ∈ ps, x.getLsbD p = y.getLsbD p) :
    fieldBits w ps x = fieldBits w ps y := by
  rw [fieldBits, fieldBits, fieldNat_congr h]

theorem fieldFlag_congr {ps : List Nat} {x y : Quad} (h : ∀ p ∈ ps, x.getLsbD p = y.getLsbD p) :
    fieldFlag ps x = fieldFlag ps y := by
  rw [fieldFlag, fieldFlag, fieldNat_congr h]

theorem fieldNat_placeField {ps : List Nat} (nodup : ps.Nodup) (lt : ∀ p ∈ ps, p < 64) (x : Nat) :
    fieldNat ps (placeField ps x) = x % 2 ^ ps.length := by
  induction ps generalizing x with
  | nil => simp [fieldNat, Nat.mod_one]
  | cons p ps ih =>
    rw [List.nodup_cons] at nodup
    rw [List.forall_mem_cons] at lt
    have low : (placeField (p :: ps) x).getLsbD p = x.testBit 0 := by
      rw [placeField, BitVec.getLsbD_or, placeField_of_not_mem nodup.1]
      cases x.testBit 0 <;> simp [lt.1]
    have rest : fieldNat ps (placeField (p :: ps) x) = fieldNat ps (placeField ps (x / 2)) := by
      refine fieldNat_congr fun q hq => ?_
      have other : p ≠ q := fun e => nodup.1 (e ▸ hq)
      rw [placeField, BitVec.getLsbD_or]
      split <;> simp [BitVec.getLsbD_twoPow, other]
    have bit : boolNat (x.testBit 0) = x % 2 := by
      rw [Nat.testBit_zero]
      rcases Nat.mod_two_eq_zero_or_one x with h | h <;> simp [h]
    rw [fieldNat, low, rest, ih nodup.2 lt.2, bit, List.length_cons, pow_succ', Nat.mod_mul]

/-! ### A register value of several fields -/

/-- The value whose fields are given as positions and contents, as `packTr4` and the other encoders of a register build
it. -/
def packFields : List (List Nat × Nat) → Quad
  | [] => 0
  | f :: fs => placeField f.1 f.2 ||| packFields fs

/-- All positions of some fields. -/
def positions (fs : List (List Nat × Nat)) : List Nat := (fs.map Prod.fst).flatten

theorem mem_positions {fs : List (List Nat × Nat)} {f : List Nat × Nat} {p : Nat} (hf : f ∈ fs) (hp : p ∈ f.1) :
    p ∈ positions fs :=
  List.mem_flatten.mpr ⟨f.1, List.mem_map_of_mem hf, hp⟩

theorem packFields_of_not_mem {fs : List (List Nat × Nat)} {n : Nat} (h : n ∉ positions fs) :
    (packFields fs).getLsbD n = false := by
  induction fs with
  | nil => simp [packFields]
  | cons f fs ih =>
    simp only [positions, List.map_cons, List.flatten_cons, List.mem_append, not_or] at h
    rw [packFields, BitVec.getLsbD_or, placeField_of_not_mem h.1, ih h.2]
    rfl

/-- Fields that share no position read back, each cut to its width. -/
theorem fieldNat_packFields {fs : List (List Nat × Nat)} (nodup : (positions fs).Nodup)
    (lt : ∀ p ∈ positions fs, p < 64) {ps : List Nat} {x : Nat} (hf : (ps, x) ∈ fs) :
    fieldNat ps (packFields fs) = x % 2 ^ ps.length := by
  induction fs with
  | nil => cases hf
  | cons g fs ih =>
    simp only [positions, List.map_cons, List.flatten_cons, List.nodup_append, List.mem_append] at nodup lt
    obtain ⟨nodupHead, nodupTail, disjoint⟩ := nodup
    rw [packFields]
    rcases List.mem_cons.mp hf with rfl | hf
    · rw [← fieldNat_placeField nodupHead (fun p hp => lt p (.inl hp)) x]
      refine fieldNat_congr fun p hp => ?_
      rw [BitVec.getLsbD_or, packFields_of_not_mem fun hq => disjoint p hp p hq rfl, Bool.or_false]
    · rw [← ih nodupTail (fun p hp => lt p (.inr hp)) hf]
      refine fieldNat_congr fun p hp => ?_
      have other : p ∉ g.1 := fun hq => disjoint p hq p (mem_positions hf hp) rfl
      rw [BitVec.getLsbD_or, placeField_of_not_mem other, Bool.false_or]

section PackFields
variable {fs : List (List Nat × Nat)} (nodup : (positions fs).Nodup) (lt : ∀ p ∈ positions fs, p < 64)
include nodup lt

theorem fieldBits_packFields {w : Nat} {ps : List Nat} {x : BitVec w} (hf : (ps, x.toNat) ∈ fs)
    (fits : x.toNat < 2 ^ ps.length) : fieldBits w ps (packFields fs) = x := by
  rw [fieldBits, fieldNat_packFields nodup lt hf, Nat.mod_eq_of_lt fits, BitVec.ofNat_toNat, BitVec.setWidth_eq]

theorem fieldFlag_packFields {ps : List Nat} {b : Bool} (hf : (ps, boolNat b) ∈ fs) (one : ps.length = 1) :
    fieldFlag ps (packFields fs) = b := by
  rw [fieldFlag, fieldNat_packFields nodup lt hf, one]
  cases b <;> rfl

end PackFields

/-! ### The layouts -/

theorem fieldsFit_iff {allowed : List Nat} {fields : List (List Nat)} :
    fieldsFit allowed fields = true ↔ (∀ p ∈ fields.flatten, p ∈ allowed) ∧ fields.flatten.Nodup := by
  simp only [fieldsFit, Bool.and_eq_true, List.all_eq_true, List.contains_iff_mem, decide_eq_true_eq]

/-- The fields of TR4 with their contents. -/
def tr4Fields (c : Config) (f : Tr4) : List (List Nat × Nat) :=
  [(c.tr4.tag, f.tag.toNat), (c.tr4.lru, f.lru.toNat), (c.tr4.valid, f.valid.toNat)]

/-- The fields of TR6 with their contents. -/
def tr6Fields (c : Config) (f : Tr6) : List (List Nat × Nat) :=
  [(tr6Address, f.la.toNat), (c.tr6.v, boolNat f.v), (c.tr6.d, boolNat f.d), (c.tr6.u, boolNat f.u),
    (c.tr6.w, boolNat f.w), (c.tr6.ps, boolNat f.ps), (c.tr6.cd, boolNat f.cd), (c.tr6.op, boolNat f.op)]

/-- The fields of TR7 with their contents. -/
def tr7Fields (c : Config) (f : Tr7) : List (List Nat × Nat) :=
  [(c.tr7.pa, f.pa.toNat), (c.tr7.pcd, boolNat f.pcd), (c.tr7.pwt, boolNat f.pwt), (c.tr7.lru, f.lru.toNat),
    (c.tr7.h, boolNat f.h), (c.tr7.entry, f.entry.toNat)]

theorem packTr4_eq (c : Config) (f : Tr4) : packTr4 c f = packFields (tr4Fields c f) := by
  simp [packTr4, tr4Fields, packFields, BitVec.or_assoc]

theorem packTr6_eq (c : Config) (f : Tr6) : packTr6 c f = packFields (tr6Fields c f) := by
  simp [packTr6, tr6Fields, packFields, BitVec.or_assoc]

theorem packTr7_eq (c : Config) (f : Tr7) : packTr7 c f = packFields (tr7Fields c f) := by
  simp [packTr7, tr7Fields, packFields, BitVec.or_assoc]

section Check
variable {c : Config} (hc : c.check = true)
include hc

/-- The fields of TR4 share no bit and leave bits 31:28 alone (rule R33). -/
theorem tr4Fields_layout (f : Tr4) : (positions (tr4Fields c f)).Nodup ∧ ∀ p ∈ positions (tr4Fields c f), p < 28 := by
  simp only [Config.check, LayoutTr4.check, Bool.and_eq_true, fieldsFit_iff] at hc
  obtain ⟨⟨⟨⟨⟨⟨-, range, nodup⟩, -⟩, -⟩, -⟩, -⟩, -⟩ := hc
  refine ⟨nodup, fun p hp => ?_⟩
  have := mem_bitRange.mp (range p hp)
  omega

/-- The fields of TR6 share no bit and lie in bits 31:0 (rule R38). -/
theorem tr6Fields_layout (f : Tr6) : (positions (tr6Fields c f)).Nodup ∧ ∀ p ∈ positions (tr6Fields c f), p < 32 := by
  simp only [Config.check, LayoutTr6.check, Bool.and_eq_true, fieldsFit_iff] at hc
  obtain ⟨⟨⟨-, -, range, nodup⟩, -⟩, -⟩ := hc
  have whole : positions (tr6Fields c f) =
      tr6Address ++ [c.tr6.v, c.tr6.d, c.tr6.u, c.tr6.w, c.tr6.ps, c.tr6.cd, c.tr6.op].flatten := rfl
  have address {p : Nat} (hp : p ∈ tr6Address) := mem_bitRange.mp hp
  have others {p : Nat} (hp : p ∈ _) := mem_bitRange.mp (range p hp)
  rw [whole]
  constructor
  · refine List.nodup_append.mpr ⟨by decide, nodup, fun p hp q hq => ?_⟩
    have := address hp
    have := others hq
    omega
  · intro p hp
    rcases List.mem_append.mp hp with hp | hp
    · have := address hp
      omega
    · have := others hp
      omega

/-- The fields of TR7 share no bit and lie in bits 31:0 (rule R40). -/
theorem tr7Fields_layout (f : Tr7) : (positions (tr7Fields c f)).Nodup ∧ ∀ p ∈ positions (tr7Fields c f), p < 32 := by
  simp only [Config.check, LayoutTr7.check, Bool.and_eq_true, fieldsFit_iff] at hc
  obtain ⟨⟨-, ⟨-, range, nodup⟩, -⟩, -⟩ := hc
  refine ⟨nodup, fun p hp => ?_⟩
  have := mem_bitRange.mp (range p hp)
  omega

/-- The widths of the fields of TR6 but the linear address (rule R38). -/
theorem check_tr6_flags : ∀ ps ∈ [c.tr6.v, c.tr6.d, c.tr6.u, c.tr6.w, c.tr6.ps, c.tr6.cd, c.tr6.op], ps.length = 1 := by
  simp only [Config.check, LayoutTr6.check, Bool.and_eq_true, List.all_eq_true, beq_iff_eq] at hc
  obtain ⟨⟨⟨-, widths, -⟩, -⟩, -⟩ := hc
  exact widths

/-- The widths of the fields of TR7 that both variants have (rule R40). -/
theorem check_tr7_widths :
    c.tr7.pa.length = 20 ∧ ∀ ps ∈ [c.tr7.pcd, c.tr7.pwt, c.tr7.h], ps.length = 1 := by
  simp only [Config.check, LayoutTr7.check, Bool.and_eq_true, List.all_eq_true, beq_iff_eq] at hc
  obtain ⟨⟨-, ⟨⟨⟨⟨pa, -⟩, -⟩, flags⟩, -⟩, -⟩, -⟩ := hc
  exact ⟨pa, flags⟩

theorem check_tr4_valid : c.tr4.valid.length = 2 := by
  simp only [Config.check, LayoutTr4.check, Bool.and_eq_true, beq_iff_eq] at hc
  tauto

/-! ### What a register value holds is what was put in -/

theorem unpackTr4_pack {f : Tr4} (fits : Tr4Fits c f) : unpackTr4 c (packTr4 c f) = f := by
  obtain ⟨nodup, range⟩ := tr4Fields_layout hc f
  obtain ⟨tag, lru, -, -, -⟩ := check_widths hc
  have field {w : Nat} {ps : List Nat} {x : BitVec w} (hf : (ps, x.toNat) ∈ tr4Fields c f) :=
    fieldBits_packFields nodup (fun p hp => (range p hp).trans (by decide)) hf
  have lruFits : f.lru.toNat < 2 ^ c.tr4.lru.length := by
    rw [lru]
    cases hv : c.variant
    · exact fits.2 hv
    · exact f.lru.isLt
  rw [packTr4_eq, unpackTr4, field (x := f.tag) (by simp [tr4Fields]) (by rw [tag]; exact fits.1),
    field (x := f.lru) (by simp [tr4Fields]) lruFits,
    field (x := f.valid) (by simp [tr4Fields]) (by rw [check_tr4_valid hc]; exact f.valid.isLt)]

theorem unpackTr6_pack (f : Tr6) : unpackTr6 c (packTr6 c f) = f := by
  obtain ⟨nodup, range⟩ := tr6Fields_layout hc f
  have lt : ∀ p ∈ positions (tr6Fields c f), p < 64 := fun p hp => (range p hp).trans (by decide)
  have address := fieldBits_packFields nodup lt (x := f.la) (ps := tr6Address) (by simp [tr6Fields]) f.la.isLt
  have flag {ps : List Nat} {b : Bool} (hf : (ps, boolNat b) ∈ tr6Fields c f)
      (hps : ps ∈ [c.tr6.v, c.tr6.d, c.tr6.u, c.tr6.w, c.tr6.ps, c.tr6.cd, c.tr6.op]) :=
    fieldFlag_packFields nodup lt hf (check_tr6_flags hc ps hps)
  rw [packTr6_eq, unpackTr6, address, flag (b := f.v) (by simp [tr6Fields]) (by simp),
    flag (b := f.d) (by simp [tr6Fields]) (by simp), flag (b := f.u) (by simp [tr6Fields]) (by simp),
    flag (b := f.w) (by simp [tr6Fields]) (by simp), flag (b := f.ps) (by simp [tr6Fields]) (by simp),
    flag (b := f.cd) (by simp [tr6Fields]) (by simp), flag (b := f.op) (by simp [tr6Fields]) (by simp)]

theorem unpackTr7_pack {f : Tr7} (fits : Tr7Fits c.variant f) : unpackTr7 c (packTr7 c f) = f := by
  obtain ⟨nodup, range⟩ := tr7Fields_layout hc f
  obtain ⟨pa, flags⟩ := check_tr7_widths hc
  obtain ⟨-, -, -, lru, entry⟩ := check_widths hc
  have lt : ∀ p ∈ positions (tr7Fields c f), p < 64 := fun p hp => (range p hp).trans (by decide)
  have field {w : Nat} {ps : List Nat} {x : BitVec w} (hf : (ps, x.toNat) ∈ tr7Fields c f) :=
    fieldBits_packFields nodup lt hf
  have flag {ps : List Nat} {b : Bool} (hf : (ps, boolNat b) ∈ tr7Fields c f)
      (hps : ps ∈ [c.tr7.pcd, c.tr7.pwt, c.tr7.h]) := fieldFlag_packFields nodup lt hf (flags ps hps)
  have lruFits : f.lru.toNat < 2 ^ c.tr7.lru.length := by
    rw [lru]
    cases hv : c.variant
    · exact f.lru.isLt
    · rw [fits.2 hv]
      decide
  have entryFits : f.entry.toNat < 2 ^ c.tr7.entry.length := by
    rw [entry]
    cases hv : c.variant
    · exact fits.1 hv
    · exact f.entry.isLt
  rw [packTr7_eq, unpackTr7, field (x := f.pa) (by simp [tr7Fields]) (by rw [pa]; exact f.pa.isLt),
    flag (b := f.pcd) (by simp [tr7Fields]) (by simp), flag (b := f.pwt) (by simp [tr7Fields]) (by simp),
    field (x := f.lru) (by simp [tr7Fields]) lruFits, flag (b := f.h) (by simp [tr7Fields]) (by simp),
    field (x := f.entry) (by simp [tr7Fields]) entryFits]

end Check

/-! ### The fields of a value are read from the defined bits of its register -/

theorem unpackTr4_congr {c : Config} {v w : Quad}
    (h : ∀ p ∈ c.tr4.tag ++ c.tr4.lru ++ c.tr4.valid, v.getLsbD p = w.getLsbD p) : unpackTr4 c v = unpackTr4 c w := by
  simp only [List.forall_mem_append] at h
  obtain ⟨⟨tag, lru⟩, valid⟩ := h
  rw [unpackTr4, fieldBits_congr tag, fieldBits_congr lru, fieldBits_congr valid, ← unpackTr4]

theorem unpackTr6_congr {c : Config} {v w : Quad}
    (h : ∀ p ∈ tr6Address ++ c.tr6.v ++ c.tr6.d ++ c.tr6.u ++ c.tr6.w ++ c.tr6.ps ++ c.tr6.cd ++ c.tr6.op,
      v.getLsbD p = w.getLsbD p) : unpackTr6 c v = unpackTr6 c w := by
  simp only [List.forall_mem_append] at h
  obtain ⟨⟨⟨⟨⟨⟨⟨la, hv⟩, d⟩, u⟩, hw⟩, ps⟩, cd⟩, op⟩ := h
  rw [unpackTr6, fieldBits_congr la, fieldFlag_congr hv, fieldFlag_congr d, fieldFlag_congr u, fieldFlag_congr hw,
    fieldFlag_congr ps, fieldFlag_congr cd, fieldFlag_congr op, ← unpackTr6]

theorem unpackTr7_congr {c : Config} {v w : Quad}
    (h : ∀ p ∈ c.tr7.pa ++ c.tr7.pcd ++ c.tr7.pwt ++ c.tr7.lru ++ c.tr7.h ++ c.tr7.entry,
      v.getLsbD p = w.getLsbD p) : unpackTr7 c v = unpackTr7 c w := by
  simp only [List.forall_mem_append] at h
  obtain ⟨⟨⟨⟨⟨pa, pcd⟩, pwt⟩, lru⟩, hit⟩, entry⟩ := h
  rw [unpackTr7, fieldBits_congr pa, fieldFlag_congr pcd, fieldFlag_congr pwt, fieldBits_congr lru,
    fieldFlag_congr hit, fieldBits_congr entry, ← unpackTr7]

/-- The positions of the fields of TR11 (rules R43, R44). -/
def tr11Positions (v : Variant) : List Nat :=
  tr11ControlBits v ++ tr11SetBits v ++ tr11BankBits v ++ [2, 3] ++ tr11TypeBits v

theorem unpackTr11_congr {v : Variant} {x y : Quad} (h : ∀ p ∈ tr11Positions v, x.getLsbD p = y.getLsbD p) :
    unpackTr11 v x = unpackTr11 v y := by
  simp only [tr11Positions, List.forall_mem_append] at h
  obtain ⟨⟨⟨⟨control, set⟩, bank⟩, way⟩, btype⟩ := h
  rw [unpackTr11, fieldBits_congr control, fieldBits_congr set, fieldBits_congr bank, fieldBits_congr way,
    fieldBits_congr btype, ← unpackTr11]

end Sys2Proof.Machine

/-!
PROOF. The map of MSR indices and the accesses to a reserved one (O20).
-/

namespace Sys2Proof.Machine

/-! ### The map of indices (rule R22) -/

/-- No register has an index of 14h or above. -/
theorem msrOfIndex_above (v : Variant) {n : Word} (h : 0x14 ≤ n.toNat) : msrOfIndex v n = none := by
  have other (w : Word) (hw : w.toNat < 0x14) : n ≠ w := by
    rintro rfl
    omega
  unfold msrOfIndex
  simp only [other 0x00 (by decide), other 0x01 (by decide), other 0x02 (by decide), other 0x04 (by decide),
    other 0x05 (by decide), other 0x06 (by decide), other 0x07 (by decide), other 0x08 (by decide),
    other 0x09 (by decide), other 0x0B (by decide), other 0x0C (by decide), other 0x0D (by decide),
    other 0x0E (by decide), other 0x10 (by decide), other 0x11 (by decide), other 0x12 (by decide),
    other 0x13 (by decide), if_false]

/-- An index is 14h or above, or one of twenty words. -/
theorem index_cases (n : Word) : 0x14 ≤ n.toNat ∨ ∃ k < 0x14, n = BitVec.ofNat 32 k := by
  by_cases h : 0x14 ≤ n.toNat
  · exact .inl h
  · exact .inr ⟨n.toNat, by omega, by simp⟩

/-- On `PMMX` no index selects TR2. -/
theorem msrOfIndex_tr2 {v : Variant} {n : Word} (h : msrOfIndex v n = some .tr2) : v = .p := by
  cases v with
  | p => rfl
  | pmmx =>
    have below : ∀ k < 0x14, msrOfIndex .pmmx (BitVec.ofNat 32 k) ≠ some .tr2 := by decide
    rcases index_cases n with above | ⟨k, hk, rfl⟩
    · rw [msrOfIndex_above _ above] at h
      cases h
    · exact absurd h (below k hk)

theorem msrOfIndex_none_iff (v : Variant) (n : Word) :
    msrOfIndex v n = none ↔ n = 0x03 ∨ n = 0x0A ∨ n = 0x0F ∨ 0x14 ≤ n.toNat ∨ (n = 0x04 ∧ v = .pmmx) := by
  have below : ∀ k < 0x14, (msrOfIndex v (BitVec.ofNat 32 k) = none ↔
      BitVec.ofNat 32 k = 0x03 ∨ BitVec.ofNat 32 k = 0x0A ∨ BitVec.ofNat 32 k = 0x0F ∨
        0x14 ≤ (BitVec.ofNat 32 k).toNat ∨ (BitVec.ofNat 32 k = 0x04 ∧ v = .pmmx)) := by
    cases v <;> decide
  rcases index_cases n with above | ⟨k, hk, rfl⟩
  · exact iff_of_true (msrOfIndex_above v above) (.inr (.inr (.inr (.inl above))))
  · exact below k hk

/-! ### An access to a reserved index (rules R163, R165) -/

/-- An outcome that `RESERVED_MSR_POLICY` decides. -/
def StopsByPolicy (index : Word) (write : Bool) (s : State) (r : Result) : Prop :=
  (s.cfg.reservedPolicy = .refuse → r = .refused (.reservedMsr index write)) ∧
  (s.cfg.reservedPolicy = .gpFault → FaultsGp s r)

theorem reservedAccess_stops {s : State} (h0 : s.core.cpl = 0) (index : Word) (write : Bool) :
    StopsByPolicy index write s (privileged s (reservedAccess index write s)) := by
  rw [privileged_zero h0, reservedAccess]
  refine ⟨fun refuse => ?_, fun fault => ?_⟩
  · rw [refuse]
  · rw [fault]
    rfl

/-- On `PMMX` the four rows of index 04h are accesses to a reserved one (rules R22, R163, R165). -/
theorem reserved04_rows {s : State} (h : s.cfg.variant = .pmmx) :
    ∀ p ∈ [(Instr.rdmsrReserved04, false), (.wrmsrReserved04, true), (.rdmsrTr2, false), (.wrmsrTr2, true)],
      exec p.1 s = privileged s (reservedAccess 0x04 p.2 s) := by
  simp only [List.forall_mem_cons, List.not_mem_nil, IsEmpty.forall_iff, implies_true, and_true, exec,
    execRdmsrReserved04, execWrmsrReserved04, execRdmsrTr2, execWrmsrTr2, h]

/-- On `P` the rows of the reserved index 04h do not exist (log 36). -/
theorem reserved04_on_p {s : State} (h : s.cfg.variant = .p) :
    exec .rdmsrReserved04 s = .refused .notOnVariant ∧ exec .wrmsrReserved04 s = .refused .notOnVariant := by
  simp only [exec, execRdmsrReserved04, execWrmsrReserved04, h, and_self]

/-- Settles O20: the map by its twenty lowest indices, and each row of a reserved index as one access that the policy
stops. -/
theorem reservedIndexStops : Obligations.ReservedIndexStops := by
  refine ⟨fun v => by cases v <;> decide, by decide, fun s n h0 => ?_⟩
  have stops (index : Word) (write : Bool) := reservedAccess_stops h0 index write
  refine ⟨msrOfIndex_none_iff _ n, ?_, fun _ => ?_, fun hm p hp => ?_, reserved04_on_p⟩
  · simp only [List.forall_mem_cons]
    exact ⟨stops _ _, stops _ _, stops _ _, stops _ _, stops _ _, stops _ _, nofun⟩
  · simp only [List.forall_mem_cons]
    exact ⟨stops _ _, stops _ _, nofun⟩
  · rw [reserved04_rows hm p hp]
    exact stops _ _

end Sys2Proof.Machine

/-!
PROOF. RDMSR: it completes at CPL 0 with a value in `EDX:EAX` and nothing else changed, and what the value holds of
each register (O17, O23, O24).
-/

namespace Sys2Proof.Machine

/-! ### The result in `EDX:EAX` -/

theorem edxEaxNat_eq (s : State) : edxEaxNat s = s.core.edxEax.toNat := (edxEax_toNat s.core).symm

theorem writeEdxEax_edxEax (c : Core) (v : Quad) : (c.writeEdxEax v).edxEax = v := by
  apply BitVec.eq_of_toNat_eq
  rw [edxEax_toNat]
  simp only [Core.writeEdxEax, highHalf_toNat, lowHalf_toNat]
  omega

@[simp] theorem result_edxEax (s : State) (v : Quad) : (s.result v).core.edxEax = v := writeEdxEax_edxEax s.core v

theorem getLsbD_lowHalf (v : Quad) {n : Nat} (hn : n < 32) : (lowHalf v).getLsbD n = v.getLsbD n := by
  simp [lowHalf, hn]

theorem getLsbD_zeroHigh (x : Word) (n : Nat) : (zeroHigh x).getLsbD n = x.getLsbD n := by
  by_cases hn : n < 64
  · simp [zeroHigh, hn]
  · rw [BitVec.getLsbD_of_ge _ n (by omega), BitVec.getLsbD_of_ge _ n (by omega)]

/-- A value in `EDX:EAX` past the two bytes of the instruction, with any number of free values used up. -/
theorem onlyEdxEax_result (s : State) (v : Quad) (n : Nat) : OnlyEdxEax s ((s.result v).useDraws n) := by
  refine ⟨fun r hr => ?_, ⟨rfl, fun p hp => ?_⟩, fun h => eipAfter_toNat h⟩
  · cases r <;> simp_all [CoreReg.kept]
  · cases p <;> simp_all [Part.kept]

/-- An instruction that completes with `v` in `EDX:EAX`. -/
def Returns (s : State) (r : Result) (v : Quad) : Prop := ∃ n, r = .next ((s.result v).useDraws n)

theorem Returns.completes {s : State} {r : Result} {v : Quad} (h : Returns s r v) :
    ∃ t, r = .next t ∧ t.core.edxEax = v ∧ OnlyEdxEax s t := by
  obtain ⟨n, rfl⟩ := h
  exact ⟨_, rfl, result_edxEax s v, onlyEdxEax_result s v n⟩

/-! ### RDMSR as the row of a register -/

theorem exec_rdmsrRow (m : Msr) (s : State) : exec (rdmsrRow m) s = rdmsrOf s m := by cases m <;> rfl

section Cpl0
variable {s : State} (h0 : s.core.cpl = 0)
include h0

theorem readMsr_returns (v : State → Quad) : Returns s (readMsr v s) (v s) := ⟨0, privileged_zero h0 _⟩

theorem readMsrMasked_returns (mask v : State → Quad) :
    Returns s (readMsrMasked mask v s) (withFreeBits (mask s) (v s) (s.free 0)) := ⟨1, privileged_zero h0 _⟩

theorem rdmsrTr2_returns (hp : s.cfg.variant = .p) :
    Returns s (execRdmsrTr2 s) (withFreeBits (definedBits .tr2 s) (s.cacheTest.tr2.setWidth 64) (s.free 0)) := by
  rw [execRdmsrTr2, hp]
  exact readMsrMasked_returns h0 _ _

/-- Every register of the variant is read (rule R161). -/
theorem rdmsrOf_returns (m : Msr) (hp : m = .tr2 → s.cfg.variant = .p) : ∃ v, Returns s (rdmsrOf s m) v := by
  cases m with
  | mca | mct => exact ⟨_, 1, privileged_zero h0 _⟩
  | tsc | ctr0 | ctr1 =>
    simp only [rdmsrOf, execRdmsrTsc, execRdmsrCtr0, execRdmsrCtr1]
    exact ⟨_, readMsr_returns h0 _⟩
  | tr2 => exact ⟨_, rdmsrTr2_returns h0 (hp rfl)⟩
  | tr1 | tr3 | tr4 | tr5 | tr6 | tr7 | tr9 | tr10 | tr11 | tr12 | cesr =>
    simp only [rdmsrOf, execRdmsrTr1, execRdmsrTr3, execRdmsrTr4, execRdmsrTr5, execRdmsrTr6, execRdmsrTr7,
      execRdmsrTr9, execRdmsrTr10, execRdmsrTr11, execRdmsrTr12, execRdmsrCesr]
    exact ⟨_, readMsrMasked_returns h0 _ _⟩

/-- RDMSR reads the register its index selects (rule R161). -/
theorem execRdmsr_of_index {m : Msr} (hm : msrOfIndex s.cfg.variant s.core.ecx = some m) :
    execRdmsr s = rdmsrOf s m := by
  rw [execRdmsr, privileged_zero h0, hm]

end Cpl0

/-- Settles O17: each register returns some value. -/
theorem rdmsrCompletes : Obligations.RdmsrCompletes := by
  intro s m h0
  have row (hp : m = .tr2 → s.cfg.variant = .p) : ∃ t, rdmsrOf s m = .next t ∧ OnlyEdxEax s t := by
    obtain ⟨v, returns⟩ := rdmsrOf_returns h0 m hp
    obtain ⟨t, done, -, only⟩ := returns.completes
    exact ⟨t, done, only⟩
  refine ⟨fun hp => ?_, fun hm => ?_⟩
  · rw [exec_rdmsrRow]
    exact row hp
  · rw [show exec .rdmsr s = rdmsrOf s m from execRdmsr_of_index h0 hm]
    exact row fun tr2 => msrOfIndex_tr2 (tr2 ▸ hm)

/-! ### What a read returns -/

/-- A 32-bit register read under a mask that defines all its bits. -/
theorem lowHalf_withFreeBits {mask : Quad} (h : ∀ n < 32, mask.getLsbD n = true) (x : Word) (free : Quad) :
    lowHalf (withFreeBits mask (zeroHigh x) free) = x := by
  apply BitVec.eq_of_getLsbD_eq
  intro n hn
  rw [getLsbD_lowHalf _ hn, getLsbD_withFreeBits, h n hn, if_pos rfl, getLsbD_zeroHigh]

theorem lowHalf_edxEax (c : Core) : lowHalf c.edxEax = c.eax := by
  apply BitVec.eq_of_toNat_eq
  rw [lowHalf_toNat, edxEax_toNat]
  have := c.eax.isLt
  omega

theorem Returns.eax {s : State} {r : Result} {v : Quad} (h : Returns s r v) :
    ∃ t, r = .next t ∧ t.core.eax = lowHalf v ∧ OnlyEdxEax s t := by
  obtain ⟨t, done, value, only⟩ := h.completes
  exact ⟨t, done, by rw [← lowHalf_edxEax, value], only⟩

theorem Returns.nat {s : State} {r : Result} {v : Quad} (h : Returns s r v) {n : Nat} (hv : v.toNat = n) :
    ∃ t, r = .next t ∧ edxEaxNat t = n ∧ OnlyEdxEax s t := by
  obtain ⟨t, done, value, only⟩ := h.completes
  exact ⟨t, done, by rw [edxEaxNat_eq, value, hv], only⟩

/-- A read of a 32-bit register of which every bit is defined. -/
theorem readMsrMasked_word {s : State} (h0 : s.core.cpl = 0) {mask : State → Quad}
    (h : ∀ n < 32, (mask s).getLsbD n = true) (x : State → Word) :
    ∃ t, readMsrMasked mask (fun s => zeroHigh (x s)) s = .next t ∧ t.core.eax = x s ∧ OnlyEdxEax s t := by
  obtain ⟨t, done, value, only⟩ := (readMsrMasked_returns h0 mask fun s => zeroHigh (x s)).eax
  exact ⟨t, done, value.trans (lowHalf_withFreeBits h _ _), only⟩

theorem counter_toNat (x : BitVec 40) : (x.setWidth 64).toNat = x.toNat := by
  rw [BitVec.toNat_setWidth]
  exact Nat.mod_eq_of_lt (x.isLt.trans (by decide))

theorem low32_ones : ∀ n < 32, (0xFFFFFFFF : Quad).getLsbD n = true := by decide

/-- Settles O23: TSC and the counters are read whole, CESR under a mask of its 32 bits and PES under a mask of bit 0. -/
theorem rdmsrCountersAndTr1 : Obligations.RdmsrCountersAndTr1 := by
  intro s h0
  refine ⟨(readMsr_returns h0 fun s => s.perf.tsc).nat rfl,
    (readMsr_returns h0 fun s => s.perf.ctr0.setWidth 64).nat (counter_toNat _),
    (readMsr_returns h0 fun s => s.perf.ctr1.setWidth 64).nat (counter_toNat _),
    readMsrMasked_word (mask := fun _ => 0xFFFFFFFF) h0 low32_ones fun s => s.perf.cesr, ?_⟩
  obtain ⟨t, done, value, only⟩ := (readMsrMasked_returns h0 (fun _ => 1)
    fun s => BitVec.ofNat 64 (boolNat s.parity.pes)).eax
  have kept : t.parity = s.parity := only.2.1.2 .parity (by decide)
  refine ⟨t, done, ?_, by rw [kept], only⟩
  rw [value, getLsbD_lowHalf _ (by decide), getLsbD_withFreeBits, if_pos (by decide)]
  cases s.parity.pes <;> rfl

/-! ### The test registers -/

theorem withFreeBits_agree {mask value free : Quad} {ps : List Nat} (h : ∀ p ∈ ps, mask.getLsbD p = true) :
    ∀ p ∈ ps, (withFreeBits mask value free).getLsbD p = value.getLsbD p := by
  intro p hp
  rw [getLsbD_withFreeBits, if_pos (h p hp)]

/-- TR2 has four bits, all defined on `P` (rule R31). -/
theorem withFreeBits_tr2 (x : BitVec 4) (free : Quad) :
    (lowHalf (withFreeBits 0xF (x.setWidth 64) free)).toNat % 16 = x.toNat := by
  have bits : (withFreeBits 0xF (x.setWidth 64) free).extractLsb' 0 4 = x := by
    apply BitVec.eq_of_getLsbD_eq
    intro n hn
    have defined : ∀ n < 4, (0xF : Quad).getLsbD n = true := by decide
    have hn' : n < 64 := by omega
    rw [BitVec.getLsbD_extractLsb', Nat.zero_add, getLsbD_withFreeBits, defined n hn]
    simp [hn, hn']
  have value := congrArg BitVec.toNat bits
  rw [BitVec.extractLsb'_toNat, Nat.shiftRight_zero] at value
  rw [lowHalf_toNat]
  omega

/-- Bits 31:28 of a value that defines them and has no bit there. -/
theorem upperBits_withFreeBits {mask value free : Quad} (defined : ∀ n < 4, mask.getLsbD (28 + n) = true)
    (zero : value.toNat < 2 ^ 28) : (lowHalf (withFreeBits mask value free)).toNat / 2 ^ 28 = 0 := by
  have bits : (withFreeBits mask value free).extractLsb' 28 4 = 0 := by
    apply BitVec.eq_of_getLsbD_eq
    intro n hn
    rw [BitVec.getLsbD_extractLsb', getLsbD_withFreeBits, defined n hn, if_pos rfl]
    have clear : value.getLsbD (28 + n) = false :=
      Nat.testBit_lt_two_pow (zero.trans_le (Nat.pow_le_pow_right (by decide) (Nat.le_add_right 28 n)))
    rw [clear]
    simp
  have value := congrArg BitVec.toNat bits
  rw [BitVec.extractLsb'_toNat, Nat.shiftRight_eq_div_pow] at value
  rw [lowHalf_toNat]
  have : (0 : BitVec 4).toNat = 0 := rfl
  omega

theorem packFields_lt {fs : List (List Nat × Nat)} {n : Nat} (h : ∀ p ∈ positions fs, p < n) :
    (packFields fs).toNat < 2 ^ n := by
  induction fs with
  | nil => simp [packFields]
  | cons f fs ih =>
    simp only [positions, List.map_cons, List.flatten_cons, List.forall_mem_append] at h
    rw [packFields, BitVec.toNat_or]
    exact Nat.or_lt_two_pow (placeField_lt h.1 _) (ih h.2)

section Read
variable {c : Config} (hc : c.check = true)
include hc

/-- The fields of TR4 under any mask that defines them (rule R33). -/
theorem unpackTr4_read {f : Tr4} (fits : Tr4Fits c f) (mask free : Quad) :
    unpackTr4 c (withFreeBits (msrMask c .tr4 ||| mask) (packTr4 c f) free) = f := by
  have range := (tr4Fields_layout hc f).2
  refine (unpackTr4_congr (withFreeBits_agree fun p hp => ?_)).trans (unpackTr4_pack hc fits)
  have lt : p < 28 := range p (by simpa [positions, tr4Fields] using hp)
  rw [BitVec.getLsbD_or, msrMask, maskOf_of_mem hp (by omega), Bool.true_or]

theorem unpackTr6_read (f : Tr6) (free : Quad) :
    unpackTr6 c (withFreeBits (msrMask c .tr6) (packTr6 c f) free) = f := by
  have range := (tr6Fields_layout hc f).2
  refine (unpackTr6_congr (withFreeBits_agree fun p hp => ?_)).trans (unpackTr6_pack hc f)
  have lt : p < 32 := range p (by simpa [positions, tr6Fields] using hp)
  exact maskOf_of_mem hp (by omega)

theorem unpackTr7_read {f : Tr7} (fits : Tr7Fits c.variant f) (free : Quad) :
    unpackTr7 c (withFreeBits (msrMask c .tr7) (packTr7 c f) free) = f := by
  have range := (tr7Fields_layout hc f).2
  refine (unpackTr7_congr (withFreeBits_agree fun p hp => ?_)).trans (unpackTr7_pack hc fits)
  have lt : p < 32 := range p (by simpa [positions, tr7Fields] using hp)
  exact maskOf_of_mem hp (by omega)

end Read

theorem unpackTr11_read (c : Config) (x free : Quad) :
    unpackTr11 c.variant (withFreeBits (msrMask c .tr11) x free) = unpackTr11 c.variant x := by
  have range (v : Variant) : ∀ p ∈ tr11Positions v, p < 64 := by cases v <;> decide
  exact unpackTr11_congr (withFreeBits_agree fun p hp => maskOf_of_mem hp (range _ p hp))

/-- The defined bits of TR9 (rule R41). -/
theorem tr9_defined {s : State} {n : Nat} (hn : n < 32) (hp : s.cfg.variant = .p → n < 2 ∨ 6 ≤ n) :
    (definedBits .tr9 s).getLsbD n = true := by
  have ones : ∀ n < 32, (n < 2 ∨ 6 ≤ n) → (0xFFFFFFC3 : Quad).getLsbD n = true := by decide
  unfold definedBits msrMask
  cases hv : s.cfg.variant
  · exact ones n hn (hp hv)
  · exact low32_ones n hn

/-- Settles O24: each read defines the bits of the register's fields, and the fields packed into a value unpack from
it. -/
theorem rdmsrTestRegisters : Obligations.RdmsrTestRegisters := by
  intro s h0 hc fieldsFit
  have fits := fits_of_fieldsFit fieldsFit
  have read (mask v : State → Quad) := readMsrMasked_returns h0 mask v
  have word (mask : State → Quad) (x : State → Word) (h : ∀ n < 32, (mask s).getLsbD n = true) :=
    readMsrMasked_word h0 h x
  refine ⟨fun hp => ?_, word (definedBits .tr3) (fun s => s.cacheTest.tr3) low32_ones, ?_, ?_, ?_, ?_,
    word (definedBits .tr10) (fun s => s.btbTest.tr10) low32_ones, ?_⟩
  · obtain ⟨t, done, value, only⟩ := (rdmsrTr2_returns h0 hp).eax
    exact ⟨t, done, by rw [value]; exact withFreeBits_tr2 _ _, only⟩
  · obtain ⟨t, done, value, only⟩ := (read tr4ReadMask fun s => packTr4 s.cfg s.cacheTest.tr4).completes
    refine ⟨t, done, by rw [value]; exact unpackTr4_read hc fits.tr4 _ _, fun zero => ?_, only⟩
    have range := (tr4Fields_layout hc s.cacheTest.tr4).2
    rw [← lowHalf_edxEax, value]
    refine upperBits_withFreeBits (fun n hn => ?_) (packTr4_eq s.cfg _ ▸ packFields_lt range)
    have upper : ∀ n < 4, (0xF0000000 : Quad).getLsbD (28 + n) = true := by decide
    rw [tr4ReadMask, zero, if_pos rfl, BitVec.getLsbD_or, upper n hn, Bool.or_true]
  · obtain ⟨t, done, value, only⟩ := (read (definedBits .tr6) fun s => packTr6 s.cfg s.tlbTest.tr6).completes
    exact ⟨t, done, by rw [value]; exact unpackTr6_read hc _ _, only⟩
  · obtain ⟨t, done, value, only⟩ := (read (definedBits .tr7) fun s => packTr7 s.cfg s.tlbTest.tr7).completes
    exact ⟨t, done, by rw [value]; exact unpackTr7_read hc fits.tr7 _, only⟩
  · obtain ⟨t, done, value, only⟩ := (read (definedBits .tr9) fun s => zeroHigh s.btbTest.tr9).eax
    refine ⟨t, done, only, fun n hn hp => ?_⟩
    rw [value, getLsbD_lowHalf _ hn, getLsbD_withFreeBits, if_pos (tr9_defined hn hp), getLsbD_zeroHigh]
  · obtain ⟨t, done, value, only⟩ := (read (definedBits .tr11) fun s => zeroHigh s.btbTest.tr11).completes
    exact ⟨t, done, only, by rw [value]; exact unpackTr11_read s.cfg _ _⟩

end Sys2Proof.Machine

/-!
PROOF. WRMSR: the write that completes, and the two ways it is refused, a one in a reserved bit and a write outside the
test procedure (O21, O22, O28).
-/

namespace Sys2Proof.Machine

/-! ### The row of a register -/

theorem exec_wrmsrRow (m : Msr) (s : State) : exec (wrmsrRow m) s = wrmsrOf s m := by cases m <;> rfl

theorem exec_tr5Command (f : Tr5) (s : State) : exec (tr5Command f) s = tr5Meaning f s := by
  unfold tr5Command tr5Meaning
  split_ifs <;> rfl

theorem exec_tr6Command (f : Tr6) (s : State) : exec (tr6Command f) s = tr6Meaning f s := by
  unfold tr6Command tr6Meaning
  split_ifs <;> rfl

theorem exec_tr11Command (f : Tr11) (s : State) : exec (tr11Command f) s = tr11Meaning f s := by
  unfold tr11Command tr11Meaning
  split_ifs <;> rfl

/-- The command a value selects is the write of that value (rule R137). -/
theorem exec_selectCommand {s : State} {m : Msr} {i : Instr} (h0 : s.core.cpl = 0)
    (h : selectCommand s.cfg s.core.edxEax (wrmsrRow m) = .ok i) : exec i s = wrmsrOf s m := by
  cases m with
  | tr5 | tr6 | tr11 =>
    simp only [wrmsrRow, selectCommand] at h
    split at h
    · cases h
    · rename_i free
      cases h
      simp only [exec_tr5Command, exec_tr6Command, exec_tr11Command, wrmsrOf, execWrmsrTr5, execWrmsrTr6, execWrmsrTr11,
        privileged_zero h0, noReservedOnes, if_neg free]
  | _ =>
    cases h
    exact exec_wrmsrRow _ s

/-- Each TR5 command is an access with its fields. -/
theorem tr5Meaning_access (f : Tr5) (s : State) : ∃ command, tr5Meaning f s = tr5Access f command s := by
  obtain ⟨cntl, buffer, set, entry, cd, wb⟩ := f
  have values (x : BitVec 2) : x = 0 ∨ x = 1 ∨ x = 2 ∨ x = 3 := by
    revert x
    decide
  rcases values cntl with rfl | rfl | rfl | rfl
  · exact ⟨_, (rfl : execTr5Normal buffer set entry cd wb s = _)⟩
  · cases cd
    · exact ⟨_, (rfl : execTr5WriteCode buffer set entry wb s = _)⟩
    · exact ⟨_, (rfl : execTr5WriteData buffer set entry wb s = _)⟩
  · cases cd
    · exact ⟨_, (rfl : execTr5ReadCode buffer set entry wb s = _)⟩
    · exact ⟨_, (rfl : execTr5ReadData buffer set entry wb s = _)⟩
  · cases cd
    · exact ⟨_, (rfl : execTr5FlushCode buffer set entry wb s = _)⟩
    · cases wb
      · exact ⟨_, (rfl : execTr5FlushDataAll buffer set entry s = _)⟩
      · exact ⟨_, (rfl : execTr5FlushDataLine buffer set entry s = _)⟩

/-- Each TR6 command is an access with its fields. -/
theorem tr6Meaning_access (f : Tr6) (s : State) : ∃ command, tr6Meaning f s = tr6Access f command s := by
  obtain ⟨la, v, d, u, w, ps, cd, op⟩ := f
  cases op
  · cases cd
    · exact ⟨_, (rfl : execTr6WriteCode la v d u w ps s = _)⟩
    · exact ⟨_, (rfl : execTr6WriteData la v d u w ps s = _)⟩
  · cases cd
    · exact ⟨_, (rfl : execTr6ReadCode la v d u w ps s = _)⟩
    · exact ⟨_, (rfl : execTr6ReadData la v d u w ps s = _)⟩

/-- Each TR11 command is an access with its fields. -/
theorem tr11Meaning_access (f : Tr11) (s : State) : ∃ command, tr11Meaning f s = tr11Access f command s := by
  obtain ⟨control, set, bank, way, btype⟩ := f
  have values (x : BitVec 3) : x = 0 ∨ x = 1 ∨ x = 2 ∨ x = 3 ∨ x = 4 ∨ x = 5 ∨ x = 6 ∨ x = 7 := by
    revert x
    decide
  rcases values control with rfl | rfl | rfl | rfl | rfl | rfl | rfl | rfl
  · exact ⟨_, (rfl : execTr11Normal btype set bank way s = _)⟩
  · exact ⟨_, (rfl : execTr11Write btype set bank way s = _)⟩
  · exact ⟨_, (rfl : execTr11ReadData btype set bank way s = _)⟩
  · exact ⟨_, (rfl : execTr11Flush btype set bank way s = _)⟩
  · exact ⟨_, (rfl : execTr11Reserved4 btype set bank way s = _)⟩
  · exact ⟨_, (rfl : execTr11ReadTag btype set bank way s = _)⟩
  · exact ⟨_, (rfl : execTr11Reserved6 btype set bank way s = _)⟩
  · exact ⟨_, (rfl : execTr11Reserved7 btype set bank way s = _)⟩

/-! ### The write that completes -/

/-- A two-byte instruction that changes parts of the state other than the core. -/
theorem onlyParts_advance {parts : List Part} {s t : State} (h : KeptBut parts s t) (core : t.core = s.core) :
    OnlyParts parts s (t.advance 2) := by
  refine ⟨fun r hr => ?_, (h.mono (List.subset_cons_self _ _)).trans ⟨rfl, fun p hp => ?_⟩, fun lt => ?_⟩
  · rw [advance_core, core]
    cases r <;> simp_all [CoreReg.kept]
  · cases p <;> simp_all [Part.kept]
  · rw [advance_core, core]
    exact eipAfter_toNat lt

theorem writeMsr_completes {m : Msr} {pre : State → Bool} {effect : Quad → State → State} {s : State}
    (h0 : s.core.cpl = 0) (free : NoReservedOne s.cfg m s.core.edxEax) (hpre : pre s = true) :
    writeMsr m pre effect s = .next ((effect s.core.edxEax s).advance 2) :=
  writeMsr_next.mpr ⟨h0, noReservedOne_iff.mp free, hpre, rfl⟩

/-- A value below `2 ^ k` writes no reserved one in a register whose low `k` bits are defined. -/
theorem noReservedOne_of_lt {c : Config} {m : Msr} {v : Quad} {k : Nat}
    (defined : ∀ n < k, (msrMask c m).getLsbD n = true) (lt : v.toNat < 2 ^ k) : NoReservedOne c m v := by
  intro n hn
  by_contra undefined
  have far : k ≤ n := by
    by_contra near
    exact undefined (defined n (by omega))
  have clear : v.getLsbD n = false := Nat.testBit_lt_two_pow (lt.trans_le (Nat.pow_le_pow_right (by decide) far))
  exact Bool.false_ne_true (clear.symm.trans hn)

theorem extract40_toNat {v : Quad} (lt : v.toNat < 2 ^ 40) : (v.extractLsb' 0 40).toNat = v.toNat := by
  rw [BitVec.extractLsb'_toNat, Nat.shiftRight_zero, Nat.mod_eq_of_lt lt]

theorem keptBut_btbTest (s : State) (x : BtbTest) : KeptBut [.btbTest] s (s.withBtbTest x) :=
  ⟨rfl, fun p hp => by cases p <;> simp_all [Part.kept]⟩

theorem keptBut_perf (s : State) (x : Perf) : KeptBut [.perf] s (s.withPerf x) :=
  ⟨rfl, fun p hp => by cases p <;> simp_all [Part.kept]⟩

theorem keptBut_tr12 (s : State) (x : Quad) : KeptBut [.tr12] s (s.withTr12 x) :=
  ⟨rfl, fun p hp => by cases p <;> simp_all [Part.kept]⟩

/-- Settles O28: each write completes with its effect, which replaces one register. -/
theorem wrmsrStoresValue : Obligations.WrmsrStoresValue := by
  intro s h0
  have perf (x : Perf) : OnlyParts [.perf] s ((s.withPerf x).advance 2) := onlyParts_advance (keptBut_perf s x) rfl
  have btb (x : BtbTest) : OnlyParts [.btbTest] s ((s.withBtbTest x).advance 2) :=
    onlyParts_advance (keptBut_btbTest s x) rfl
  have eax := lowHalf_edxEax s.core
  have nat := edxEax_toNat s.core
  refine ⟨fun nbp free => ?_, fun nbp edx => ?_, fun free => ?_, ?_, fun edx => ?_, fun free => ?_⟩
  · exact ⟨_, writeMsr_completes (effect := writeTr9) h0 free nbp, by simp [writeTr9, eax], btb _⟩
  · have lt : s.core.edxEax.toNat < 2 ^ 32 := by
      rw [nat, edx]
      simpa using s.core.eax.isLt
    exact ⟨_, writeMsr_completes (effect := writeTr10) h0 (noReservedOne_of_lt low32_ones lt) nbp,
      by simp [writeTr10, eax], btb _⟩
  · exact ⟨_, writeMsr_completes (pre := fun _ => true) (effect := fun v t => t.withTr12 v) h0 free rfl, nat,
      onlyParts_advance (keptBut_tr12 s _) rfl⟩
  · have defined : ∀ n < 64, (msrMask s.cfg .tsc).getLsbD n = true := by
      show ∀ n < 64, (BitVec.allOnes 64).getLsbD n = true
      decide
    exact ⟨_, writeMsr_completes (pre := fun _ => true) (effect := fun v t => t.withPerf { t.perf with tsc := v }) h0
      (noReservedOne_of_lt defined s.core.edxEax.isLt) rfl, nat, rfl, perf _⟩
  · have lt : s.core.edxEax.toNat < 2 ^ 40 := by
      have := s.core.eax.isLt
      omega
    have defined : ∀ n < 40, (0xFFFFFFFFFF : Quad).getLsbD n = true := by decide
    have count := (extract40_toNat lt).trans nat
    exact ⟨⟨_, writeMsr_completes (pre := fun _ => true)
        (effect := fun v t => t.withPerf { t.perf with ctr0 := v.extractLsb' 0 40 }) h0
        (noReservedOne_of_lt defined lt) rfl, count, rfl, perf _⟩,
      ⟨_, writeMsr_completes (pre := fun _ => true)
        (effect := fun v t => t.withPerf { t.perf with ctr1 := v.extractLsb' 0 40 }) h0
        (noReservedOne_of_lt defined lt) rfl, count, rfl, perf _⟩⟩
  · exact ⟨_, writeMsr_completes (pre := fun _ => true)
      (effect := fun v t => t.withPerf { t.perf with cesr := lowHalf v }) h0 free rfl, by simp [eax], perf _⟩

/-! ### A one in a reserved bit (rules R24 b, R138) -/

/-- The positions the tables call reserved are those the mask leaves out. -/
theorem mask_of_reservedBit {c : Config} {m : Msr} {n : Nat} (hn : n < 64) (h : ReservedBit c m n) :
    (msrMask c m).getLsbD n = false := by
  have left (ps : List Nat) (hps : n ∉ ps) : (maskOf ps).getLsbD n = false := by simp [getLsbD_maskOf, hps]
  cases m with
  | mca | mct | tsc => cases h
  | tr4 | tr5 | tr6 | tr7 | cesr => exact left _ h
  | tr1 => exact (by decide : ∀ n < 64, 14 ≤ n → (0x3FFF : Quad).getLsbD n = false) n hn h
  | tr2 => exact (by decide : ∀ n < 64, 4 ≤ n → (0xF : Quad).getLsbD n = false) n hn h
  | tr3 | tr10 => exact (by decide : ∀ n < 64, 32 ≤ n → (0xFFFFFFFF : Quad).getLsbD n = false) n hn h
  | ctr0 | ctr1 => exact (by decide : ∀ n < 64, 40 ≤ n → (0xFFFFFFFFFF : Quad).getLsbD n = false) n hn h
  | tr9 | tr11 | tr12 =>
    simp only [ReservedBit, msrMask] at h ⊢
    clear left
    generalize c.variant = v at h ⊢
    revert n
    cases v <;> dsimp only <;> decide

theorem hasReservedOne_of_bit {c : Config} {m : Msr} {n : Nat} {v : Quad} (h : ReservedBit c m n)
    (hv : v.getLsbD n = true) : hasReservedOne c m v = true := by
  by_contra free
  have hn : n < 64 := by
    by_contra far
    rw [BitVec.getLsbD_of_ge _ n (by omega)] at hv
    cases hv
  have defined := noReservedOne_iff.mpr (Bool.eq_false_of_not_eq_true free) n hv
  rw [mask_of_reservedBit hn h] at defined
  cases defined

section Cpl0
variable {s : State} (h0 : s.core.cpl = 0)
include h0

theorem writeMsr_reserved {m : Msr} (hv : hasReservedOne s.cfg m s.core.edxEax = true) (pre : State → Bool)
    (effect : Quad → State → State) : writeMsr m pre effect s = .refused (.reservedBits m) := by
  rw [writeMsr, privileged_zero h0, noReservedOnes, if_pos hv]

/-- Only the registers MCA and MCT are refused before the reserved bits are looked at (rules R28, R29). -/
theorem wrmsrOf_reserved {m : Msr} (hm : m ≠ .mca ∧ m ≠ .mct) (hp : m = .tr2 → s.cfg.variant = .p)
    (hv : hasReservedOne s.cfg m s.core.edxEax = true) : wrmsrOf s m = .refused (.reservedBits m) := by
  cases m with
  | mca => exact absurd rfl hm.1
  | mct => exact absurd rfl hm.2
  | tr2 =>
    rw [wrmsrOf, execWrmsrTr2, hp rfl]
    exact writeMsr_reserved h0 hv _ _
  | tr5 | tr6 | tr11 =>
    simp only [wrmsrOf, execWrmsrTr5, execWrmsrTr6, execWrmsrTr11, privileged_zero h0, noReservedOnes, if_pos hv]
  | tr1 | tr3 | tr4 | tr7 | tr9 | tr10 | tr12 | tsc | cesr | ctr0 | ctr1 =>
    simp only [wrmsrOf, execWrmsrTr1, execWrmsrTr3, execWrmsrTr4, execWrmsrTr7, execWrmsrTr9, execWrmsrTr10,
      execWrmsrTr12, execWrmsrTsc, execWrmsrCesr, execWrmsrCtr0, execWrmsrCtr1]
    exact writeMsr_reserved h0 hv _ _

/-- A TR5 operand that needs the bit TR5.19, which `P` reserves (rule R36). -/
theorem tr5Command_badEntry {f : Tr5} (h : entryFits s.cfg.variant f.entry = false) :
    exec (tr5Command f) s = .refused (.reservedBits .tr5) := by
  obtain ⟨command, access⟩ := tr5Meaning_access f s
  rw [exec_tr5Command, access, tr5Access, privileged_zero h0, if_neg (by rw [h]; exact Bool.false_ne_true)]

/-- TR11 operands that need a bit `P` reserves (rules R43, R44). -/
theorem tr11Command_reserved {f : Tr11} (hp : s.cfg.variant = .p)
    (h : ¬(f.btype = 0 ∧ f.bank = 0 ∧ f.control.getLsbD 2 = false)) :
    exec (tr11Command f) s = .refused (.reservedBits .tr11) := by
  obtain ⟨command, access⟩ := tr11Meaning_access f s
  rw [exec_tr11Command, access]
  simp only [tr11Access, privileged_zero h0, tr11Operands, hp, if_neg h]

/-- A set that the BTB of `PMMX` does not have (rule R43). -/
theorem tr11Command_noSet {f : Tr11} (hm : s.cfg.variant = .pmmx) (h : ¬f.set.toNat < Variant.btbSets .pmmx) :
    exec (tr11Command f) s = .refused .notOnVariant := by
  obtain ⟨command, access⟩ := tr11Meaning_access f s
  rw [exec_tr11Command, access]
  simp only [tr11Access, privileged_zero h0, tr11Operands, hm, if_neg h]

/-- On `PMMX` a TR11 command with a set that exists runs while NBP = 1 (rules R43, R252). -/
theorem tr11Access_runs {f : Tr11} (hm : s.cfg.variant = .pmmx) (h : f.set.toNat < Variant.btbSets .pmmx)
    (nbp : BtbTestSet s) (command : State → Result) : tr11Access f command s = command (s.latchTr11 f) := by
  have pre : btbTestPre s = true := nbp
  simp only [tr11Access, privileged_zero h0, tr11Operands, hm, if_pos h, inTestProcedure, if_pos pre]

end Cpl0

/-- Settles O21: the mask of a register is the complement of its reserved positions, and the operand checks of the
commands stand before everything else. -/
theorem reservedOneIsRefused : Obligations.ReservedOneIsRefused := by
  intro s h0
  refine ⟨fun m n hp reserved bit => ?_, fun buffer set entry cd wb hp wide => ?_,
    fun btype set bank way => ⟨fun unfit => ?_, fun hm nbp hs => ?_, fun hp => ?_⟩⟩
  · rw [exec_wrmsrRow]
    exact wrmsrOf_reserved h0 ⟨fun e => by cases e; exact reserved, fun e => by cases e; exact reserved⟩ hp
      (hasReservedOne_of_bit reserved bit)
  · have unfit : entryFits s.cfg.variant entry = false := by
      rw [hp]
      revert entry
      decide
    have refused (cntl : BitVec 2) (cd wb : Bool) :=
      tr5Command_badEntry h0 (f := ⟨cntl, buffer, set, entry, cd, wb⟩) unfit
    simp only [List.forall_mem_cons]
    exact ⟨refused 0 cd wb, refused 1 false wb, refused 1 true wb, refused 2 false wb, refused 2 true wb,
      refused 3 false wb, refused 3 true false, refused 3 true true, nofun⟩
  · simp only [List.forall_mem_cons]
    cases hv : s.cfg.variant with
    | p =>
      have wide (control : BitVec 3) : ¬(btype = 0 ∧ bank = 0 ∧ control.getLsbD 2 = false) := by
        rintro ⟨rfl, rfl, -⟩
        rw [hv] at unfit
        cases unfit
      have refused (control : BitVec 3) :=
        tr11Command_reserved h0 (f := ⟨control, set, bank, way, btype⟩) hv (wide control)
      exact ⟨refused 0, refused 1, refused 2, refused 3, nofun⟩
    | pmmx =>
      have noSet : ¬set.toNat < Variant.btbSets .pmmx := by simpa [tr11Fits, hv] using unfit
      have refused (control : BitVec 3) := tr11Command_noSet h0 (f := ⟨control, set, bank, way, btype⟩) hv noSet
      exact ⟨refused 0, refused 1, refused 2, refused 3, nofun⟩
  · have runs (control : BitVec 3) := tr11Access_runs h0 (f := ⟨control, set, bank, way, btype⟩) hm hs nbp
      fun _ => .refused (.btbReservedControl control)
    exact ⟨runs 4, runs 6, runs 7⟩
  · have refused {control : BitVec 3} (high : control.getLsbD 2 = true) :=
      tr11Command_reserved h0 (f := ⟨control, set, bank, way, btype⟩) hp
        fun low => Bool.false_ne_true (low.2.2.symm.trans high)
    simp only [List.forall_mem_cons]
    exact ⟨refused (control := 5) rfl, refused (control := 4) rfl, refused (control := 6) rfl,
      refused (control := 7) rfl, nofun⟩

/-! ### A write outside the test procedure (rule R24 c) -/

/-- The condition of the test procedure a register belongs to; the other registers have none (rules R182, R222, R252,
R281, R301). -/
def testPre (s : State) : Msr → Bool
  | .tr2 | .tr3 | .tr4 | .tr5 => cacheTestPre s
  | .tr6 | .tr7 => tlbTestPre s
  | .tr9 | .tr10 | .tr11 => btbTestPre s
  | _ => true

theorem entryFits_of_lt {v : Variant} {e : BitVec 2} (h : v = .p → e.toNat < 2) : entryFits v e = true := by
  cases v with
  | p =>
    have low : ∀ e : BitVec 2, e.toNat < 2 → entryFits .p e = true := by decide
    exact low e (h rfl)
  | pmmx => rfl

/-- The fields of a TR11 value fit the variant (rules R43, R44). -/
theorem tr11Operands_unpack (s : State) (x : Quad) (k : Result) :
    tr11Operands (unpackTr11 s.cfg.variant x) s k = k := by
  unfold tr11Operands
  cases hv : s.cfg.variant with
  | p =>
    have control : (unpackTr11 .p x).control.getLsbD 2 = false :=
      Nat.testBit_lt_two_pow (fieldBits_lt 3 [0, 1] x)
    exact if_pos ⟨rfl, rfl, control⟩
  | pmmx => exact if_pos (fieldBits_lt 6 (bitRange 11 8) x)

section Outside
variable {s : State} (h0 : s.core.cpl = 0)
include h0

theorem writeMsr_outside {m : Msr} {pre : State → Bool} (free : NoReservedOne s.cfg m s.core.edxEax)
    (hpre : pre s = false) (effect : Quad → State → State) :
    writeMsr m pre effect s = .refused (.normalOperation m) := by
  simp only [writeMsr, privileged_zero h0, noReservedOnes, noReservedOne_iff.mp free, inTestProcedure, hpre,
    Bool.false_eq_true, if_false]

/-- A write outside the test procedure of its register (rules R181, R221, R251). -/
theorem wrmsrOf_outside {m : Msr} (hc : s.cfg.check = true) (free : NoReservedOne s.cfg m s.core.edxEax)
    (hp : m = .tr2 → s.cfg.variant = .p) (hpre : testPre s m = false) :
    wrmsrOf s m = .refused (.normalOperation m) := by
  cases m with
  | tr2 =>
    rw [wrmsrOf, execWrmsrTr2, hp rfl]
    exact writeMsr_outside h0 free hpre _
  | tr3 | tr4 | tr7 | tr9 | tr10 =>
    simp only [wrmsrOf, execWrmsrTr3, execWrmsrTr4, execWrmsrTr7, execWrmsrTr9, execWrmsrTr10]
    exact writeMsr_outside h0 free hpre _
  | tr5 =>
    have hpre : cacheTestPre s = false := hpre
    obtain ⟨command, access⟩ := tr5Meaning_access (unpackTr5 s.cfg s.core.edxEax) s
    have fits : entryFits s.cfg.variant (unpackTr5 s.cfg s.core.edxEax).entry = true :=
      entryFits_of_lt (tr5Fits_unpack hc s.core.edxEax)
    simp only [wrmsrOf, execWrmsrTr5, privileged_zero h0, noReservedOnes, noReservedOne_iff.mp free, access, tr5Access,
      fits, inTestProcedure, hpre, Bool.false_eq_true, if_false, if_true]
  | tr6 =>
    have hpre : tlbTestPre s = false := hpre
    obtain ⟨command, access⟩ := tr6Meaning_access (unpackTr6 s.cfg s.core.edxEax) s
    simp only [wrmsrOf, execWrmsrTr6, privileged_zero h0, noReservedOnes, noReservedOne_iff.mp free, access, tr6Access,
      inTestProcedure, hpre, Bool.false_eq_true, if_false]
  | tr11 =>
    have hpre : btbTestPre s = false := hpre
    obtain ⟨command, access⟩ := tr11Meaning_access (unpackTr11 s.cfg.variant s.core.edxEax) s
    simp only [wrmsrOf, execWrmsrTr11, privileged_zero h0, noReservedOnes, noReservedOne_iff.mp free, access,
      tr11Access, tr11Operands_unpack, inTestProcedure, hpre, Bool.false_eq_true, if_false]
  | mca | mct | tr1 | tr12 | tsc | cesr | ctr0 | ctr1 => cases hpre

end Outside

/-! ### The record of a TLB test (rule R222; log 13) -/

theorem tlbFillMove_off {s : State} (pg : s.core.cr0.getLsbD 31 = false) (n : TlbName) (entry : BitVec 6)
    (lru : BitVec 3) (e : TlbEntry) : tlbFillMove n entry lru e s = s := by
  rw [tlbFillMove, Core.pg, pg, if_neg Bool.false_ne_true]

theorem tlbLookupMove_off {s : State} (pg : s.core.cr0.getLsbD 31 = false) (n : TlbName) (la : BitVec 20) :
    tlbLookupMove n la s = .next s := by
  rw [tlbLookupMove, Core.pg, pg, if_neg Bool.false_ne_true]

/-- A fill breaks an open sequence. -/
theorem tlbFillMove_broken {s : State} (pg : s.core.cr0.getLsbD 31 = true) (active : s.tlbSequence.active = true)
    (n : TlbName) (entry : BitVec 6) (lru : BitVec 3) (e : TlbEntry) : ¬TlbTestSet (tlbFillMove n entry lru e s) := by
  have filled : (fillTlb n entry lru e s).tlbSequence = s.tlbSequence.fill := rfl
  rw [tlbFillMove, Core.pg, pg, if_pos rfl, TlbTestSet, filled, TlbSequence.fill, active]
  simp

/-- A lookup that hits an entry under test breaks the sequence. -/
theorem tlbLookupMove_broken {s : State} {n : TlbName} {la : BitVec 20} {k : Nat} (pg : s.core.cr0.getLsbD 31 = true)
    (hit : tlbMatches s.cfg.variant s.tlbs (tlbOf s.cfg.variant n) la = [k])
    (tested : (tlbOf s.cfg.variant n, k) ∈ s.tlbSequence.tested) :
    ∃ t, tlbLookupMove n la s = .next t ∧ ¬TlbTestSet t := by
  have used : (s.tlbSequence.use (tlbOf s.cfg.variant n) [k]).broken = true := by simp [TlbSequence.use, tested]
  have checked (bad : Bool) (u : State) : (checkParity bad u id).tlbSequence = u.tlbSequence := by
    rcases checkParity_cases bad u id with ⟨-, e⟩ | ⟨-, -, e⟩ | ⟨-, -, e⟩ <;> simp [e]
  rw [tlbLookupMove, Core.pg, pg, if_pos rfl, lookupTlb]
  simp only [hit]
  refine ⟨_, rfl, ?_⟩
  rw [TlbTestSet, checked, withTlbSequence_tlbSequence, used]
  simp

/-- Settles O22: the condition of its test procedure stands in the way of each write, and the record of a TLB test
follows the turns of normal operation. -/
theorem unpredictableWritesAreRefused : Obligations.UnpredictableWritesAreRefused := by
  intro s m h0 hc
  have cache (h : ¬CacheTestSet s) : cacheTestPre s = false := by
    simpa [cacheTestPre, Core.cd, Core.nw, CacheTestSet] using h
  have tlb (h : ¬TlbTestSet s) : tlbTestPre s = false := by simpa [tlbTestPre, TlbTestSet] using h
  have btb (h : ¬BtbTestSet s) : btbTestPre s = false := Bool.eq_false_of_not_eq_true h
  refine ⟨fun free => ?_, fun n entry lru e pg active => ⟨_, rfl, tlbFillMove_broken pg active n entry lru e⟩,
    fun pg n entry lru e la => ⟨congrArg _ (tlbFillMove_off pg n entry lru e), tlbLookupMove_off pg n la⟩,
    fun n la k pg hit tested => tlbLookupMove_broken pg hit tested, privileged_zero h0 _, privileged_zero h0 _⟩
  have refused (hp : m = .tr2 → s.cfg.variant = .p) (hpre : testPre s m = false) := wrmsrOf_outside h0 hc free hp hpre
  rw [exec_wrmsrRow]
  refine ⟨fun hm outside => ?_, fun hm outside => ?_, fun hm outside => ?_, fun hm i hi => ?_⟩
  · refine refused (by rintro rfl; simpa using hm) ?_
    rcases hm with hm | ⟨rfl, -⟩
    · simp only [List.mem_cons, List.not_mem_nil, or_false] at hm
      rcases hm with rfl | rfl | rfl <;> exact cache outside
    · exact cache outside
  · simp only [List.mem_cons, List.not_mem_nil, or_false] at hm
    rcases hm with rfl | rfl <;> exact refused nofun (tlb outside)
  · simp only [List.mem_cons, List.not_mem_nil, or_false] at hm
    rcases hm with rfl | rfl | rfl <;> exact refused nofun (btb outside)
  · rw [exec_selectCommand h0 hi]
    rcases hm with ⟨rfl, outside⟩ | ⟨rfl, outside⟩ | ⟨rfl, outside⟩
    · exact refused nofun (cache outside)
    · exact refused nofun (tlb outside)
    · exact refused nofun (btb outside)

end Sys2Proof.Machine

/-!
PROOF. CPUID, the testability write of the data cache, RESET and the machine check (O11, O32, O53, O60).
-/

namespace Sys2Proof.Machine

/-! ### CPUID (rule R160) -/

theorem getLsbD_replaceBits (mask x y : Word) {n : Nat} (hn : n < 32) :
    (replaceBits mask x y).getLsbD n = if mask.getLsbD n then y.getLsbD n else x.getLsbD n := by
  simp only [replaceBits, BitVec.getLsbD_or, BitVec.getLsbD_and, BitVec.getLsbD_not, hn, decide_true, Bool.true_and]
  cases mask.getLsbD n <;> simp

/-- A defined bit of the signature is one of family 5 or one of the model. -/
theorem getLsbD_cpuidSignature (model : BitVec 4) (free : Word) {n : Nat} (lo : 4 ≤ n) (hi : n < 12) :
    (cpuidSignature model free).getLsbD n = ((0x500#32).getLsbD n || model.getLsbD (n - 4)) := by
  have defined : ∀ n < 12, 4 ≤ n → (0xFF0 : Word).getLsbD n = true := by decide
  have shifted : (model.setWidth 32 <<< 4).getLsbD n = model.getLsbD (n - 4) := by
    have : n < 32 := by omega
    have : n - 4 < 32 := by omega
    simp [*]
  rw [cpuidSignature, getLsbD_replaceBits _ _ _ (by omega), defined n hi lo, if_pos rfl, BitVec.getLsbD_or, shifted]
  rfl

theorem cpuidSignature_family (model : BitVec 4) (free : Word) : (cpuidSignature model free).extractLsb' 8 4 = 5 := by
  apply BitVec.eq_of_getLsbD_eq
  intro i hi
  have family : ∀ i < 4, (0x500#32).getLsbD (8 + i) = (5 : BitVec 4).getLsbD i := by decide
  rw [BitVec.getLsbD_extractLsb', getLsbD_cpuidSignature _ _ (by omega) (by omega), family i hi,
    BitVec.getLsbD_of_ge model _ (by omega)]
  simp [hi]

theorem cpuidSignature_model (model : BitVec 4) (free : Word) :
    (cpuidSignature model free).extractLsb' 4 4 = model := by
  apply BitVec.eq_of_getLsbD_eq
  intro i hi
  have clear : ∀ i < 4, (0x500#32).getLsbD (4 + i) = false := by decide
  rw [BitVec.getLsbD_extractLsb', getLsbD_cpuidSignature _ _ (by omega) (by omega), clear i hi, Nat.add_sub_cancel_left]
  simp [hi]

theorem nibble_toNat (x : Word) (n : Nat) : x.toNat / 2 ^ n % 16 = (x.extractLsb' n 4).toNat := by
  rw [BitVec.extractLsb'_toNat, Nat.shiftRight_eq_div_pow]

/-- Settles O11: the signature's two fields and the two feature bits, bit by bit. -/
theorem cpuidResult : Obligations.CpuidResult := by
  intro s
  refine ⟨fun one => ?_, fun other => if_neg other⟩
  have features : ∀ n ∈ [4, 5], (cpuidFeatures (s.freeBits 3 32)).getLsbD n = true := by
    simp only [List.forall_mem_cons, cpuidFeatures, BitVec.getLsbD_or, Bool.or_eq_true]
    exact ⟨.inr rfl, .inr rfl, nofun⟩
  refine ⟨_, if_pos one, ?_, ?_, features 4 (by simp), features 5 (by simp), fun lt => eipAfter_toNat lt,
    fun r hr => ?_, rfl, fun p hp => ?_⟩
  · exact (nibble_toNat _ 8).trans (congrArg _ (cpuidSignature_family _ _))
  · refine (nibble_toNat _ 4).trans ((congrArg _ (cpuidSignature_model _ _)).trans ?_)
    unfold Config.model
    cases s.cfg.variant <;> rfl
  · cases r <;> simp_all [CoreReg.kept, Core.writeCpuid]
  · cases p <;> simp_all [Part.kept]

/-! ### The testability write of the data cache (rule R190) -/

theorem dataLine_putData (c : Caches) (k j : Nat) (l : DataLine) :
    (c.putData k l).dataLine j = if j = k then l else c.dataLine j := Sparse.get_put _ _ _ _ _

theorem dataLru_putDataLru (c : Caches) (set j : BitVec 7) (x : BitVec 3) :
    (c.putDataLru set x).dataLru j = if j = set then x else c.dataLru j := by
  have h := Sparse.get_put 0 c.dcacheLru set.toNat j.toNat x
  simp only [BitVec.toNat_inj] at h
  exact h

/-- A TR5 command runs in a cache test with an entry the variant has (rules R36, R182). -/
theorem tr5Access_runs {f : Tr5} {s : State} (h0 : s.core.cpl = 0) (test : CacheTestSet s)
    (entry : s.cfg.variant = .p → f.entry.toNat < 2) (command : State → State) :
    tr5Access f command s = .next (command (s.latchTr5 f)) := by
  have pre : cacheTestPre s = true := by
    rw [cacheTestPre, Core.cd, Core.nw, test.1, test.2]
    rfl
  exact tr5Access_next.mpr ⟨h0, entryFits_of_lt entry, pre, rfl⟩

/-- The line TR5 addresses by set and entry (rule R36). -/
theorem tr5Key_eq {f : Tr5} {s : State} (entry : s.cfg.variant = .p → f.entry.toNat < 2) :
    tr5Key f s = f.set.toNat * 4 + f.entry.toNat := by
  unfold tr5Key lineKey cacheWay
  cases hv : s.cfg.variant with
  | p => exact congrArg _ (Nat.mod_eq_of_lt (entry hv))
  | pmmx => rfl

/-- LRU bits the variant has stay as they are (rule R35). -/
theorem clipLru_of_lt {v : Variant} {x : BitVec 3} (h : v = .p → x.toNat < 2) : clipLru v x = x := by
  cases v with
  | p =>
    have low : ∀ x : BitVec 3, x.toNat < 2 → clipLru .p x = x := by decide
    exact low x (h rfl)
  | pmmx => rfl

/-- The two valid bits and the state of a line are one another's encoding (rule R34). -/
theorem mesiBits_mesiOfBits (v : BitVec 2) : mesiBits (mesiOfBits v) = v := by
  revert v
  decide

theorem portion_replicate {α : Type} (x : α) (k : BitVec 3) : portion (Vector.replicate 8 x) k = x := by
  simp [portion]

theorem getLsbD_allBits (b : Bool) {n : Nat} (hn : n < 4) : (allBits b).getLsbD n = b := by
  have ones : ∀ n < 4, (0xF : BitVec 4).getLsbD n = true := by decide
  cases b with
  | true => exact ones n hn
  | false => exact BitVec.getLsbD_zero

/-- Settles O32: one line and the LRU bits of its set are stored, the rest of the caches read as before. -/
theorem dataCacheWrite : Obligations.DataCacheWrite := by
  intro s buffer set entry wb h0 test hentry fieldsFit
  have fits := fits_of_fieldsFit fieldsFit
  have run := tr5Access_runs (f := ⟨1, buffer, set, entry, true, wb⟩) h0 test hentry
    (writeDataLine ⟨1, buffer, set, entry, true, wb⟩)
  have key := tr5Key_eq (f := ⟨1, buffer, set, entry, true, wb⟩) (s := s.latchTr5 ⟨1, buffer, set, entry, true, wb⟩)
    hentry
  refine ⟨_, run, rfl, ⟨dataLineToWrite ⟨1, buffer, set, entry, true, wb⟩ (s.latchTr5 _), rfl, rfl,
    mesiBits_mesiOfBits _, rfl, rfl, fun k n hn => ?_, fun k => ?_⟩, fun j => ?_, rfl, rfl, ?_⟩
  · rw [dataLineToWrite, portion_replicate]
    exact getLsbD_allBits _ hn
  · rw [← key]
    exact dataLine_putData _ _ _ _
  · have lru := clipLru_of_lt fits.tr4.2
    rw [← lru]
    exact dataLru_putDataLru _ _ _ _
  · exact onlyParts_advance ⟨rfl, fun p hp => by cases p <;> simp_all [Part.kept]⟩ rfl

/-! ### RESET (rules R80, R500) -/

/-- The state after reset lists nothing (logs 4, 5). -/
theorem canonical_resetWith (c : Config) : (State.resetWith c).Canonical :=
  canonical_of_empty rfl rfl rfl (Sparse.canonical_nil _ _) (Sparse.canonical_nil _ _)

/-- The fields of the state after reset are those RESET leaves. -/
theorem fits_resetWith (c : Config) : Fits (State.resetWith c) := by
  have reset := fits_afterReset (State.resetWith c)
  exact ⟨reset.tr4, reset.tr5, reset.tr7, reset.caches, reset.btb, reset.btbTest, reset.tr12⟩

/-- Settles O53: the values are those of `State.resetWith`, which meets both invariants. -/
theorem resetValues : Obligations.ResetValues :=
  ⟨fun s => ⟨s.afterReset, rfl, rfl, rfl, rfl, rfl, rfl, rfl, fun _ => rfl⟩,
    fun c => ⟨rfl, rfl, rfl, canonical_resetWith c, (fits_resetWith c).fieldsFit⟩⟩

/-! ### The machine check (rule R463) -/

/-- Settles O60: CR4.MCE decides between the exception and the latched registers. -/
theorem machineCheckLatches : Obligations.MachineCheckLatches := by
  intro s addr type
  refine ⟨fun off => ?_, fun on => if_pos on⟩
  have latched : machineCheckMove addr type s = .next (s.withMachineCheck addr type) :=
    if_neg (by rw [Core.mce, off]; exact Bool.false_ne_true)
  exact ⟨_, latched, rfl, rfl, rfl, fun p hp => by cases p <;> simp_all [Part.kept]⟩

end Sys2Proof.Machine

/-!
PROOF. One clock of a counter: when it is enabled, by how much it goes up, and the bounds of what an event counts in a
clock (O51).
-/

namespace Sys2Proof.Machine

/-! ### What an event counts in a clock -/

/-- The event a code selects has that code (rule R360). -/
theorem eventOf_code {v : Variant} {code : Nat} {i : Fin 2} {r : EventRow} (h : eventOf v code i = some r) :
    r.code = code := by
  have selected := List.find?_some h
  simp only [Bool.and_eq_true, decide_eq_true_eq] at selected
  exact selected.1

theorem seenIn_le (known : Option Occurrence) (code : Nat) (i : Fin 2) : seenIn known code i ≤ 1 := by
  have bit (b : Bool) : boolNat b ≤ 1 := by cases b <;> decide
  cases known with
  | none => exact Nat.zero_le 1
  | some o => exact bit _

theorem mod_three_le (n : Nat) : n % 3 ≤ 2 := by omega

theorem freeBetween_ge (env : ClockEnv) (clock code lo hi : Nat) : lo ≤ freeBetween env clock code lo hi :=
  Nat.le_add_right _ _

theorem freeBetween_le (env : ClockEnv) (clock code : Nat) {lo hi : Nat} (h : lo ≤ hi) :
    freeBetween env clock code lo hi ≤ hi := by
  have part : Config.eventSource env.cfg.variant code 0 clock % (hi - lo + 1) ≤ hi - lo :=
    Nat.le_of_lt_succ (Nat.mod_lt _ (Nat.succ_pos _))
  unfold freeBetween
  omega

theorem takenBranches_le (env : ClockEnv) (known : Option Occurrence) (clock : Nat) :
    takenBranches env known clock ≤ 2 := Nat.min_le_left _ _

theorem eventBound_le (r : EventRow) : eventBound r ≤ 2 := by
  unfold eventBound
  split
  · exact Nat.le_refl 2
  · split <;> decide

theorem oracleCount_le (env : ClockEnv) (clock : Nat) (i : Fin 2) (r : EventRow) :
    oracleCount env clock i r ≤ 2 := by
  have part (a b : Nat) : a % (b % 3 + 1) ≤ 2 :=
    (Nat.le_of_lt_succ (Nat.mod_lt a (Nat.succ_pos _))).trans (mod_three_le b)
  have bounded (a : Nat) : a % (eventBound r + 1) ≤ 2 :=
    (Nat.le_of_lt_succ (Nat.mod_lt a (Nat.succ_pos _))).trans (eventBound_le r)
  unfold oracleCount
  generalize (if r.counters = .both then 0 else i.val) = counter
  dsimp only
  split_ifs
  · exact part _ _
  · exact (Nat.sub_le _ _).trans (mod_three_le _)
  · exact mod_three_le _
  · exact part _ _
  · exact (Nat.sub_le _ _).trans (mod_three_le _)
  · exact mod_three_le _
  · exact mod_three_le _
  · exact mod_three_le _
  · exact mod_three_le _
  · exact mod_three_le _
  · exact bounded _

/-- An event counts at most two in a clock (rules R361, R393; log 8). -/
theorem eventCount_le (env : ClockEnv) (known : Option Occurrence) (clock : Nat) (i : Fin 2) (r : EventRow) :
    eventCount env known clock i r ≤ 2 := by
  have taken := takenBranches_le env known clock
  have hits : btbHits env clock ≤ 2 := mod_three_le _
  have bit (b : Bool) : boolNat b ≤ 2 := by cases b <;> decide
  unfold eventCount
  dsimp only
  split_ifs
  · exact (seenIn_le _ _ _).trans (by decide)
  · exact Nat.zero_le 2
  · exact bit _
  · exact Nat.min_le_left _ _
  · exact freeBetween_le _ _ _ taken
  · exact hits
  · exact (freeBetween_le _ _ _ (by omega)).trans (Nat.min_le_left _ _)
  · exact taken
  · exact oracleCount_le _ _ _ _

section EventCount
variable (env : ClockEnv) (known : Option Occurrence) (clock : Nat) (i : Fin 2) {r : EventRow}

/-- Event 22 counts what was executed (rule R384). -/
theorem eventCount_executed (h : r.code = 22) :
    eventCount env known clock i r =
      if known ∈ [some .instruction, some .flushService, some .takenBranch] then 1 else 0 := by
  simp only [eventCount, h, if_pos]
  cases known with
  | none => rfl
  | some o => cases o <;> rfl

/-- Event 23 counts nothing while TR12.SE = 1 (rule R385). -/
theorem eventCount_single (h : r.code = 23) (se : env.se = true) : eventCount env known clock i r = 0 := by
  simp [eventCount, h, se]

/-- Event 48 of counter 0 counts the clocks outside the HALT state (rule R416). -/
theorem eventCount_running (h : r.code = 48) : eventCount env known clock 0 r = if env.halted then 0 else 1 := by
  cases halted : env.halted <;> simp [eventCount, h, halted]

/-- Event 6 counts a writeback (rule R368). -/
theorem eventCount_writeback (h : r.code = 6) : 1 ≤ eventCount env (some .writeback) clock i r := by
  have seen : seenIn (some .writeback) 6 i = 1 := rfl
  simp only [eventCount, h, seen]
  simp only [reduceIte, Nat.reduceEqDiff, false_and]
  omega

/-- A known taken branch is one of the taken branches of the clock (rule R380). -/
theorem takenBranches_pos (h : known = some .flushService ∨ known = some .takenBranch) :
    1 ≤ takenBranches env known clock := by
  have seen : seenIn known 50 1 = 1 := by rcases h with rfl | rfl <;> rfl
  unfold takenBranches
  omega

/-- Events 18 and 20 count a taken branch (rules R380, R382). -/
theorem eventCount_branch (h : r.code = 18 ∨ r.code = 20)
    (branch : known = some .flushService ∨ known = some .takenBranch) :
    1 ≤ eventCount env known clock i r := by
  have taken := takenBranches_pos env known clock branch
  rcases h with h | h
  · have count : eventCount env known clock i r = freeBetween env clock 18 (takenBranches env known clock) 2 := by
      simp [eventCount, h]
    exact count ▸ taken.trans (freeBetween_ge _ _ _ _ _)
  · have count : eventCount env known clock i r =
        freeBetween env clock 20 (max (takenBranches env known clock) (btbHits env clock))
          (min 2 (takenBranches env known clock + btbHits env clock)) := by
      simp [eventCount, h]
    exact count ▸ (taken.trans (Nat.le_max_left _ _)).trans (freeBetween_ge _ _ _ _ _)

end EventCount

/-! ### A counter in a clock -/

/-- The enable predicate of rules R48 and R334. -/
theorem counterEnabled_iff (cc : BitVec 3) (cpl : Fin 4) :
    counterEnabled cc cpl = true ↔ (cc.getLsbD 0 = true ∧ cpl ≠ 3) ∨ (cc.getLsbD 1 = true ∧ cpl = 3) := by
  revert cc cpl
  decide

/-- A counter that goes up by `n`, with `INC` and `OVF` (rule R335). -/
def counterUp (ctr : BitVec 40) (n : Nat) : BitVec 40 × Bool × Bool :=
  (BitVec.ofNat 40 (ctr.toNat + n), decide (0 < n), decide (2 ^ 40 ≤ ctr.toNat + n))

section TickCounter
variable {env : ClockEnv} {p : Perf} {i : Fin 2} (known : Option Occurrence) (ctr : BitVec 40)

theorem tickCounter_disabled (off : counterEnabled (cesrCc env.cfg p.cesr i) env.cpl = false)
    (h : (cesrCc env.cfg p.cesr i).getLsbD 2 = true ∨ cesrCc env.cfg p.cesr i = 0 ∨
      (eventOf env.cfg.variant (cesrEs env.cfg p.cesr i) i).isSome = true) :
    tickCounter env known p i ctr = (ctr, false, false) := by
  unfold tickCounter
  dsimp only
  rw [off]
  split
  · rfl
  · rename_i counting
    obtain ⟨r, event⟩ := Option.isSome_iff_exists.mp ((or_assoc.mpr h).resolve_left counting)
    rw [event]
    rfl

theorem tickCounter_clocks (on : counterEnabled (cesrCc env.cfg p.cesr i) env.cpl = true)
    (clocks : (cesrCc env.cfg p.cesr i).getLsbD 2 = true) :
    tickCounter env known p i ctr = counterUp ctr 1 := by
  unfold tickCounter
  dsimp only
  rw [if_pos (.inl clocks), if_pos on]
  rfl

theorem tickCounter_event {r : EventRow} (on : counterEnabled (cesrCc env.cfg p.cesr i) env.cpl = true)
    (events : (cesrCc env.cfg p.cesr i).getLsbD 2 = false)
    (event : eventOf env.cfg.variant (cesrEs env.cfg p.cesr i) i = some r) :
    tickCounter env known p i ctr = counterUp ctr (eventCount env known p.clock i r) := by
  have counting : ¬((cesrCc env.cfg p.cesr i).getLsbD 2 = true ∨ cesrCc env.cfg p.cesr i = 0) := by
    rintro (clocks | none)
    · exact Bool.false_ne_true (events.symm.trans clocks)
    · rw [none] at on
      exact Bool.false_ne_true on
  unfold tickCounter
  dsimp only
  rw [if_neg counting, event]
  exact if_pos on

end TickCounter

/-- A counter and its signals after a clock, by counter number (rule R335). -/
theorem tick_counter {env : ClockEnv} {known : Option Occurrence} {p : Perf} {i : Fin 2} {before after : BitVec 40}
    {inc ovf : Bool}
    (first : i = 0 → before = p.ctr0 ∧ after = (tick env known p).ctr0 ∧ inc = (tick env known p).inc0 ∧
      ovf = (tick env known p).ovf0)
    (second : i = 1 → before = p.ctr1 ∧ after = (tick env known p).ctr1 ∧ inc = (tick env known p).inc1 ∧
      ovf = (tick env known p).ovf1) :
    (after, inc, ovf) = tickCounter env known p i before := by
  have number : i = 0 ∨ i = 1 := by omega
  rcases number with rfl | rfl
  · obtain ⟨rfl, rfl, rfl, rfl⟩ := first rfl
    rfl
  · obtain ⟨rfl, rfl, rfl, rfl⟩ := second rfl
    rfl

theorem counterUp_eq {ctr after : BitVec 40} {inc ovf : Bool} {n : Nat} (h : (after, inc, ovf) = counterUp ctr n) :
    after.toNat = (ctr.toNat + n) % 2 ^ 40 ∧ (inc = true ↔ 0 < n) ∧ (ovf = true ↔ 2 ^ 40 ≤ ctr.toNat + n) := by
  cases h
  exact ⟨BitVec.toNat_ofNat _ _, decide_eq_true_iff, decide_eq_true_iff⟩

/-- Settles O51: a counter holds, goes up with the clock, or goes up by what its event counts. -/
theorem clockTick : Obligations.ClockTick := by
  rintro env known p i before after inc ovf _ _ first second rfl rfl
  have counter := tick_counter first second
  rw [← counterEnabled_iff]
  refine ⟨BitVec.toNat_add _ _, rfl, fun off counting => ?_, fun on => ⟨fun clocks => ?_, fun events some => ?_⟩⟩
  · rw [tickCounter_disabled known before (Bool.eq_false_of_not_eq_true off) counting] at counter
    cases counter
    exact ⟨rfl, rfl, rfl⟩
  · rw [tickCounter_clocks known before on clocks] at counter
    obtain ⟨count, up, carry⟩ := counterUp_eq counter
    have := before.isLt
    exact ⟨count, up.mpr Nat.one_pos, carry.trans (by omega)⟩
  · obtain ⟨r, event⟩ := Option.isSome_iff_exists.mp some
    rw [tickCounter_event known before on events event] at counter
    obtain ⟨count, up, carry⟩ := counterUp_eq counter
    have code := eventOf_code event
    refine ⟨_, eventCount_le env known p.clock i r, count, up, carry,
      fun es => eventCount_executed env known p.clock i (code.trans es),
      fun es => eventCount_single env known p.clock i (code.trans es), fun es zero => ?_, fun es written => ?_,
      fun es => eventCount_branch env known p.clock i (es.imp code.trans code.trans)⟩
    · subst zero
      exact eventCount_running env known p.clock (code.trans es)
    · subst written
      exact eventCount_writeback env p.clock i (code.trans es)

end Sys2Proof.Machine

/-!
PROOF. Internal snooping: the lines an access hits, the lines of an address given up in each cache, and what a writeback
leaves in memory (O56).
-/

namespace Sys2Proof.Machine

/-! ### The line an address lies in (rule R196; log 43) -/

theorem mem_wayKeys {v : Variant} {set : BitVec 7} {k : Nat} :
    k ∈ wayKeys v set ↔ ∃ w < v.cacheWays, k = set.toNat * 4 + w := by
  simp [wayKeys, lineKey, eq_comm]

theorem addressSet_toNat {c : Config} (hc : c.cacheTagBits = 20) (a : Word) :
    (addressSet c a).toNat = a.toNat / 2 ^ 5 % 2 ^ 7 := by
  rw [addressSet, if_pos hc, BitVec.extractLsb'_toNat, Nat.shiftRight_eq_div_pow]

theorem addressTag_toNat {c : Config} (hc : c.cacheTagBits = 20) (a : Word) :
    (addressTag c a).toNat = a.toNat / 2 ^ 12 := by
  have ha := a.isLt
  rw [addressTag, if_pos hc, BitVec.toNat_setWidth, BitVec.extractLsb'_toNat, Nat.shiftRight_eq_div_pow]
  omega

theorem mem_dataHits {a : Word} {s : State} {k : Nat} :
    k ∈ dataHits a s ↔ k ∈ wayKeys s.cfg.variant (addressSet s.cfg a) ∧
      (s.caches.dataLine k).state ≠ .invalid ∧ (s.caches.dataLine k).tag = addressTag s.cfg a := by
  simp [dataHits]

theorem mem_codeHits {a : Word} {s : State} {k : Nat} :
    k ∈ codeHits a s ↔ k ∈ wayKeys s.cfg.variant (addressSet s.cfg a) ∧
      (s.caches.codeLine k).valid = true ∧ (s.caches.codeLine k).tag = addressTag s.cfg a := by
  simp [codeHits]

/-- A way of the address's set, and a condition on it. -/
theorem mem_wayKeys_address {c : Config} (hc : c.cacheTagBits = 20) (a : Word) (k : Nat) (P : Prop) :
    k ∈ wayKeys c.variant (addressSet c a) ∧ P ↔
      ∃ w < c.variant.cacheWays, k = a.toNat / 2 ^ 5 % 2 ^ 7 * 4 + w ∧ P := by
  rw [mem_wayKeys, addressSet_toNat hc]
  constructor
  · rintro ⟨⟨w, hw, e⟩, h⟩
    exact ⟨w, hw, e, h⟩
  · rintro ⟨w, hw, e, h⟩
    exact ⟨⟨w, hw, e⟩, h⟩

theorem tag_eq_addressTag {c : Config} (hc : c.cacheTagBits = 20) {a : Word} {tag : BitVec 23} :
    tag = addressTag c a ↔ tag.toNat = a.toNat / 2 ^ 12 := by
  rw [← addressTag_toNat hc, BitVec.toNat_inj]

theorem dataHits_derived {s : State} (hc : s.cfg.cacheTagBits = 20) (a : Word) (k : Nat) :
    k ∈ dataHits a s ↔ ∃ w < s.cfg.variant.cacheWays, k = a.toNat / 2 ^ 5 % 2 ^ 7 * 4 + w ∧
      (s.caches.dataLine k).state ≠ .invalid ∧ (s.caches.dataLine k).tag.toNat = a.toNat / 2 ^ 12 := by
  rw [mem_dataHits, tag_eq_addressTag hc, mem_wayKeys_address hc]

theorem codeHits_derived {s : State} (hc : s.cfg.cacheTagBits = 20) (a : Word) (k : Nat) :
    k ∈ codeHits a s ↔ ∃ w < s.cfg.variant.cacheWays, k = a.toNat / 2 ^ 5 % 2 ^ 7 * 4 + w ∧
      (s.caches.codeLine k).valid = true ∧ (s.caches.codeLine k).tag.toNat = a.toNat / 2 ^ 12 := by
  rw [mem_codeHits, tag_eq_addressTag hc, mem_wayKeys_address hc]

/-- A line that an address hits lies at the address with its low five bits cleared. -/
theorem lineAddress_of_hit {s : State} (hc : s.cfg.cacheTagBits = 20) {a : Word} {k : Nat} (h : k ∈ dataHits a s) :
    (lineAddress s.cfg (s.caches.dataLine k).tag (addressSet s.cfg a)).toNat = a.toNat - a.toNat % 32 := by
  obtain ⟨-, -, tag⟩ := mem_dataHits.mp h
  have ha := a.isLt
  rw [lineAddress_toNat hc, tag, addressTag_toNat hc, addressSet_toNat hc]
  omega

/-! ### A line in memory -/

theorem readByte_writeByte (m : Memory) (a c : Nat) (b : Byte) :
    readByte (writeByte m a b) c = if c = a then b else readByte m c := Sparse.get_put _ _ _ _ _

theorem readByte_writeLine (m : Memory) (a : Word) (d : LineData) {n : Nat} (hn : n < 32) :
    readByte (writeLine m a d) (a.toNat + n) = lineByte d n := by
  rw [writeLine, readByte_writeBytes, lineBytes_length, if_pos (by omega), Nat.add_sub_cancel_left]
  simp [lineBytes, List.getD, hn]

theorem readByte_writeLine_other (m : Memory) (a : Word) (d : LineData) {b : Nat}
    (hb : b < a.toNat ∨ a.toNat + 32 ≤ b) : readByte (writeLine m a d) b = readByte m b := by
  rw [writeLine, readByte_writeBytes, lineBytes_length, if_neg (by omega)]

/-! ### Code cache lines given up (rule R109) -/

theorem codeLine_putCode (c : Caches) (k j : Nat) (l : CodeLine) :
    (c.putCode k l).codeLine j = if j = k then l else c.codeLine j := Sparse.get_put _ _ _ _ _

/-- Code cache lines made invalid: nothing but these lines changes (log 45). -/
theorem invalidateCodeLines_eq (keys : List Nat) (s : State) :
    ∃ c, keys.foldl (fun u k => invalidateCodeLine k u) s = s.withCaches c ∧
      c = { s.caches with icache := c.icache } ∧
      ∀ j, c.codeLine j = if j ∈ keys then { s.caches.codeLine j with valid := false } else s.caches.codeLine j := by
  induction keys generalizing s with
  | nil => exact ⟨s.caches, rfl, rfl, fun j => by simp⟩
  | cons k keys ih =>
    obtain ⟨c, eq, others, lines⟩ := ih (invalidateCodeLine k s)
    refine ⟨c, eq, others, fun j => ?_⟩
    rw [lines j, invalidateCodeLine, withCaches_caches, codeLine_putCode]
    by_cases h : j = k
    · subst h
      simp
    · simp [h]

/-- A snoop that finds tags of good parity (rule R109; log 26). -/
theorem snoopCode_good {a : Word} {s : State} (rest : State → State)
    (good : ∀ k ∈ codeHits a s, (s.caches.codeLine k).badTag = false) :
    snoopCode a rest s = rest ((codeHits a s).foldl (fun u k => invalidateCodeLine k u) s) := by
  have none : (codeHits a s).any (fun k => (s.caches.codeLine k).badTag) = false := by
    simpa using good
  simp [snoopCode, checkParity, none]

/-! ### Data cache lines given up (rule R110) -/

theorem invalidateDataLine_unmodified {k : Nat} {s : State} (set : BitVec 7)
    (h : (s.caches.dataLine k).state ≠ .modified) :
    invalidateDataLine k set s = s.withCaches (s.caches.putData k { s.caches.dataLine k with state := .invalid }) := by
  rw [invalidateDataLine, if_neg h]

theorem invalidateDataLine_modified {k : Nat} {s : State} (set : BitVec 7)
    (h : (s.caches.dataLine k).state = .modified) :
    invalidateDataLine k set s = (writeback (s.caches.dataLine k) set s).withCaches
      (s.caches.putData k { s.caches.dataLine k with state := .invalid }) := by
  rw [invalidateDataLine, if_pos h]

theorem dataLine_invalidateDataLine (k : Nat) (set : BitVec 7) (s : State) (j : Nat) :
    (invalidateDataLine k set s).caches.dataLine j =
      if j = k then { s.caches.dataLine k with state := .invalid } else s.caches.dataLine j :=
  dataLine_putData s.caches k j _

/-- A modified line after another is given up was modified before and is not that one. -/
theorem modified_of_invalidateDataLine {k j : Nat} {set : BitVec 7} {s : State}
    (h : ((invalidateDataLine k set s).caches.dataLine j).state = .modified) :
    j ≠ k ∧ (s.caches.dataLine j).state = .modified := by
  rw [dataLine_invalidateDataLine] at h
  split at h
  · cases h
  · exact ⟨‹_›, h⟩

theorem giveUpBad_of_goodParity {l : DataLine} (h : l.GoodParity) : giveUpBad l = false := by
  obtain ⟨tag, bytes⟩ := h
  have good : l.badByte.toList.any (· != 0) = false := by
    rw [List.any_eq_false]
    intro x hx
    obtain ⟨i, hi, rfl⟩ := List.getElem_of_mem hx
    have hi : i < 8 := by simpa using hi
    have byte := bytes (BitVec.ofNat 3 i)
    simp only [portion, BitVec.toNat_ofNat, Nat.mod_eq_of_lt hi] at byte
    simpa using byte
  exact giveUpBad_good (.inr (by rw [writebackBad, tag, good]; rfl))

/-- The data cache lines at some keys made invalid, each written back first if it is modified. -/
def invalidateDataLines (set : BitVec 7) (keys : List Nat) (s : State) : State :=
  keys.foldl (fun u k => invalidateDataLine k set u) s

theorem giveUpDataLines_good {set : BitVec 7} {keys : List Nat} {s : State}
    (good : ∀ k ∈ keys, giveUpBad (s.caches.dataLine k) = false) :
    giveUpDataLines set id keys s = invalidateDataLines set keys s := by
  induction keys generalizing s with
  | nil => rfl
  | cons k keys ih =>
    obtain ⟨first, others⟩ := List.forall_mem_cons.mp good
    have line : giveUpDataLine k set (giveUpDataLines set id keys) s =
        giveUpDataLines set id keys (invalidateDataLine k set s) := by
      simp [giveUpDataLine, checkParity, first]
    refine line.trans (ih fun j hj => ?_)
    rw [dataLine_invalidateDataLine]
    split
    · rfl
    · exact others j hj

theorem invalidateDataLines_dataLine (set : BitVec 7) (keys : List Nat) (s : State) (j : Nat) :
    (invalidateDataLines set keys s).caches.dataLine j =
      if j ∈ keys then { s.caches.dataLine j with state := .invalid } else s.caches.dataLine j := by
  induction keys generalizing s with
  | nil => simp [invalidateDataLines]
  | cons k keys ih =>
    refine (ih (invalidateDataLine k set s)).trans ?_
    rw [dataLine_invalidateDataLine]
    by_cases h : j = k
    · subst h
      simp
    · simp [h]

theorem invalidateDataLines_otherArrays (set : BitVec 7) (keys : List Nat) (s : State) :
    (invalidateDataLines set keys s).caches =
      { s.caches with dcache := (invalidateDataLines set keys s).caches.dcache } := by
  induction keys generalizing s with
  | nil => rfl
  | cons k keys ih => exact ih (invalidateDataLine k set s)

theorem invalidateDataLines_kept (set : BitVec 7) (keys : List Nat) (s : State) :
    KeptBut [.memory, .caches, .trace, .occurred] s (invalidateDataLines set keys s) := by
  induction keys generalizing s with
  | nil => exact KeptBut.refl _ s
  | cons k keys ih => exact (invalidateDataLine_kept k set s).trans (ih _)

/-- Without a modified line nothing is written back. -/
theorem invalidateDataLines_unmodified {set : BitVec 7} {keys : List Nat} {s : State}
    (h : ∀ k ∈ keys, (s.caches.dataLine k).state ≠ .modified) :
    ∃ c, invalidateDataLines set keys s = s.withCaches c := by
  induction keys generalizing s with
  | nil => exact ⟨s.caches, rfl⟩
  | cons k keys ih =>
    obtain ⟨first, others⟩ := List.forall_mem_cons.mp h
    obtain ⟨c, eq⟩ := ih (s := invalidateDataLine k set s)
      fun j hj mod => others j hj (modified_of_invalidateDataLine mod).2
    exact ⟨c, eq.trans (by rw [invalidateDataLine_unmodified set first]; rfl)⟩

/-- The one modified line among those given up is written back, wherever it stands (rules R110, R196). -/
theorem invalidateDataLines_oneModified {set : BitVec 7} {keys : List Nat} {s : State} {k : Nat} (hk : k ∈ keys)
    (modified : (s.caches.dataLine k).state = .modified)
    (one : ∀ j ∈ keys, (s.caches.dataLine j).state = .modified → j = k) :
    ∃ c, invalidateDataLines set keys s = (writeback (s.caches.dataLine k) set s).withCaches c := by
  induction keys generalizing s with
  | nil => cases hk
  | cons i keys ih =>
    obtain ⟨first, others⟩ := List.forall_mem_cons.mp one
    by_cases e : i = k
    · subst e
      obtain ⟨c, eq⟩ := invalidateDataLines_unmodified (set := set) (keys := keys) (s := invalidateDataLine i set s)
        fun j hj mod => (modified_of_invalidateDataLine mod).1 (others j hj (modified_of_invalidateDataLine mod).2)
      exact ⟨c, eq.trans (by rw [invalidateDataLine_modified set modified]; rfl)⟩
    · have line : (invalidateDataLine i set s).caches.dataLine k = s.caches.dataLine k := by
        rw [dataLine_invalidateDataLine, if_neg (Ne.symm e)]
      obtain ⟨c, eq⟩ := ih (s := invalidateDataLine i set s) ((List.mem_cons.mp hk).resolve_left (Ne.symm e))
        (by rw [line, modified]) fun j hj mod => others j hj (modified_of_invalidateDataLine mod).2
      refine ⟨c, eq.trans ?_⟩
      rw [line, invalidateDataLine_unmodified set fun mod => e (first mod)]
      rfl

/-! ### The accesses -/

theorem dataReadMove_miss {a : Word} {s : State} (miss : dataHits a s = []) :
    dataReadMove a s = .next ((snoopCode a disturbFill s).useDraws 17) := by
  rw [dataReadMove, miss]

theorem dataWriteMove_miss {a : Word} {b : Byte} {line : Mesi} {out : Bool} {s : State} (miss : dataHits a s = []) :
    dataWriteMove a b line out s =
      .next (snoopCode a (fun t => if out then t.withMem (writeByte t.mem a.toNat b) else t) s) := by
  rw [dataWriteMove, miss]

/-- A code access that misses and snoops lines of good parity (rule R110; log 26). -/
theorem codeFetchMove_miss {a : Word} {s : State} (miss : codeHits a s = [])
    (good : ∀ k ∈ dataHits a s, (s.caches.dataLine k).GoodParity) :
    codeFetchMove a s = .next ((invalidateDataLines (addressSet s.cfg a) (dataHits a s) s).useDraws 1) := by
  rw [codeFetchMove, miss, snoopData, giveUpDataLines_good fun k hk => giveUpBad_of_goodParity (good k hk)]

theorem exists_cons_cons_of_two_le {α : Type} {l : List α} (h : 2 ≤ l.length) : ∃ x y r, l = x :: y :: r := by
  match l, h with
  | x :: y :: r, _ => exact ⟨x, y, r, rfl⟩

theorem dataReadMove_doubleHit {a : Word} {s : State} (h : 2 ≤ (dataHits a s).length) :
    dataReadMove a s = .refused .cacheDoubleHit := by
  obtain ⟨x, y, r, e⟩ := exists_cons_cons_of_two_le h
  rw [dataReadMove, e]

theorem dataWriteMove_doubleHit {a : Word} {b : Byte} {line : Mesi} {out : Bool} {s : State}
    (h : 2 ≤ (dataHits a s).length) : dataWriteMove a b line out s = .refused .cacheDoubleHit := by
  obtain ⟨x, y, r, e⟩ := exists_cons_cons_of_two_le h
  rw [dataWriteMove, e]

theorem codeFetchMove_doubleHit {a : Word} {s : State} (h : 2 ≤ (codeHits a s).length) :
    codeFetchMove a s = .refused .cacheDoubleHit := by
  obtain ⟨x, y, r, e⟩ := exists_cons_cons_of_two_le h
  rw [codeFetchMove, e]

theorem useDraws_kept (s : State) (n : Nat) : KeptBut [.draws] s (s.useDraws n) :=
  ⟨rfl, fun p hp => by cases p <;> simp_all [Part.kept]⟩

theorem withCaches_kept (s : State) (c : Caches) : KeptBut [.caches] s (s.withCaches c) :=
  ⟨rfl, fun p hp => by cases p <;> simp_all [Part.kept]⟩

theorem withMem_kept (s : State) (m : Memory) : KeptBut [.memory] s (s.withMem m) :=
  ⟨rfl, fun p hp => by cases p <;> simp_all [Part.kept]⟩

theorem disturbFill_kept (s : State) : KeptBut [.cacheTest] s (disturbFill s) :=
  ⟨rfl, fun p hp => by cases p <;> simp_all [Part.kept, disturbFill]⟩

/-- Settles O56: a miss gives up the lines of the address in the other cache, one after the other, and of the data cache
lines only the modified one is written back. -/
theorem internalSnooping : Obligations.InternalSnooping := by
  intro s a
  refine ⟨fun hc => ⟨dataHits_derived hc a, codeHits_derived hc a⟩, fun miss good => ?_, fun miss good one => ?_,
    fun two => ⟨dataReadMove_doubleHit two, fun _ _ _ => dataWriteMove_doubleHit two⟩, codeFetchMove_doubleHit⟩
  · obtain ⟨c, invalid, others, lines⟩ := invalidateCodeLines_eq (codeHits a s) s
    refine ⟨⟨_, dataReadMove_miss miss, ?_⟩, fun b line out => ⟨_, dataWriteMove_miss miss, ?_⟩⟩ <;>
      rw [snoopCode_good _ good, invalid]
    · exact ⟨lines, others, rfl, ((withCaches_kept s c).mono (by decide)).trans
        (((disturbFill_kept _).mono (by decide)).trans ((useDraws_kept _ 17).mono (by decide)))⟩
    · cases out with
      | false => exact ⟨lines, others, fun x => by simp, (withCaches_kept s c).mono (by decide)⟩
      | true =>
        exact ⟨lines, others, fun x => by simp [readByte_writeByte],
          ((withCaches_kept s c).mono (by decide)).trans ((withMem_kept _ _).mono (by decide))⟩
  · refine ⟨_, codeFetchMove_miss miss good, invalidateDataLines_dataLine _ _ s,
      invalidateDataLines_otherArrays _ _ s, fun k hk modified x hx => ?_, fun unmodified => ?_, ?_⟩
    · subst hx
      obtain ⟨c, written⟩ := invalidateDataLines_oneModified (set := addressSet s.cfg a) hk modified
        fun j hj mod => one j hj k hk mod modified
      rw [written]
      exact ⟨fun hc => lineAddress_of_hit hc hk, fun n hn => readByte_writeLine _ _ _ hn,
        fun b hb => readByte_writeLine_other _ _ _ hb, rfl⟩
    · obtain ⟨c, eq⟩ := invalidateDataLines_unmodified (set := addressSet s.cfg a) unmodified
      rw [eq]
      exact ((withCaches_kept s c).mono (by decide)).trans ((useDraws_kept _ 1).mono (by decide))
    · exact ((invalidateDataLines_kept _ _ s).mono (by decide)).trans ((useDraws_kept _ 1).mono (by decide))

end Sys2Proof.Machine

/-!
PROOF. RDMSR, WRMSR and RDPMC are the rows that ECX and the value written select (O16).
-/

namespace Sys2Proof.Machine

/-! ### What CPL guards -/

theorem privileged_idem (s : State) (k : Result) : privileged s (privileged s k) = privileged s k := by
  unfold privileged
  split_ifs <;> rfl

/-- What a privileged instruction does matters at CPL 0 only (rule R162). -/
theorem privileged_congr {s : State} {k k' : Result} (h : s.core.cpl = 0 → k = k') :
    privileged s k = privileged s k' := by
  unfold privileged
  split_ifs with h0
  · exact h h0
  · rfl

theorem privileged_rdmsrOf (s : State) (m : Msr) : privileged s (rdmsrOf s m) = rdmsrOf s m := by
  cases m with
  | tr2 =>
    rw [rdmsrOf, execRdmsrTr2]
    split <;> exact privileged_idem s _
  | _ => exact privileged_idem s _

theorem privileged_wrmsrOf (s : State) (m : Msr) : privileged s (wrmsrOf s m) = wrmsrOf s m := by
  cases m with
  | tr2 =>
    rw [wrmsrOf, execWrmsrTr2]
    split <;> exact privileged_idem s _
  | _ => exact privileged_idem s _

theorem privileged_tr5Meaning (f : Tr5) (s : State) : privileged s (tr5Meaning f s) = tr5Meaning f s := by
  obtain ⟨command, access⟩ := tr5Meaning_access f s
  rw [access]
  exact privileged_idem s _

theorem privileged_tr6Meaning (f : Tr6) (s : State) : privileged s (tr6Meaning f s) = tr6Meaning f s := by
  obtain ⟨command, access⟩ := tr6Meaning_access f s
  rw [access]
  exact privileged_idem s _

theorem privileged_tr11Meaning (f : Tr11) (s : State) : privileged s (tr11Meaning f s) = tr11Meaning f s := by
  obtain ⟨command, access⟩ := tr11Meaning_access f s
  rw [access]
  exact privileged_idem s _

/-- The command a value selects is guarded by CPL, as the write that runs it (rules R162, R164). -/
theorem privileged_selectCommand {s : State} {c : Config} {v : Quad} {m : Msr} {i : Instr}
    (h : selectCommand c v (wrmsrRow m) = .ok i) : privileged s (exec i s) = exec i s := by
  cases m with
  | tr5 | tr6 | tr11 =>
    simp only [wrmsrRow, selectCommand] at h
    split at h
    · cases h
    · cases h
      simp only [exec_tr5Command, exec_tr6Command, exec_tr11Command, privileged_tr5Meaning, privileged_tr6Meaning,
        privileged_tr11Meaning]
  | _ =>
    cases h
    rw [exec_wrmsrRow]
    exact privileged_wrmsrOf s _

/-! ### The row of an index (rule R136) -/

theorem selectRdmsr_of_index {v : Variant} {n : Word} {m : Msr} (hm : msrOfIndex v n = some m) :
    selectRdmsr v n = rdmsrRow m := by
  rw [selectRdmsr, hm]

theorem selectWrmsr_of_index {v : Variant} {n : Word} {m : Msr} (hm : msrOfIndex v n = some m) :
    selectWrmsr v n = wrmsrRow m := by
  rw [selectWrmsr, hm]

/-- Index 04h is reserved on `PMMX` only (rule R22). -/
theorem variant_of_reserved04 {v : Variant} (hn : msrOfIndex v 0x04 = none) : v = .pmmx := by
  cases v with
  | p => cases hn
  | pmmx => rfl

/-- The rows of a reserved index are the accesses to it (rules R163, R165). -/
theorem exec_select_reserved {s : State} {n : Word} (hn : msrOfIndex s.cfg.variant n = none) :
    exec (selectRdmsr s.cfg.variant n) s = privileged s (reservedAccess n false s) ∧
    exec (selectWrmsr s.cfg.variant n) s = privileged s (reservedAccess n true s) := by
  simp only [selectRdmsr, selectWrmsr, hn]
  split_ifs with h3 h4 hA hF
  · subst h3
    exact ⟨rfl, rfl⟩
  · subst h4
    have rows := reserved04_rows (variant_of_reserved04 hn)
    exact ⟨rows (.rdmsrReserved04, false) (by simp), rows (.wrmsrReserved04, true) (by simp)⟩
  · subst hA
    exact ⟨rfl, rfl⟩
  · subst hF
    exact ⟨rfl, rfl⟩
  · exact ⟨rfl, rfl⟩

theorem execRdmsr_eq_select (s : State) : execRdmsr s = exec (selectRdmsr s.cfg.variant s.core.ecx) s := by
  cases hm : msrOfIndex s.cfg.variant s.core.ecx with
  | none => rw [(exec_select_reserved hm).1, execRdmsr, hm]
  | some m => rw [selectRdmsr_of_index hm, exec_rdmsrRow, ← privileged_rdmsrOf, execRdmsr, hm]

theorem execWrmsr_eq_select (s : State) : execWrmsr s = exec (selectWrmsr s.cfg.variant s.core.ecx) s := by
  cases hm : msrOfIndex s.cfg.variant s.core.ecx with
  | none => rw [(exec_select_reserved hm).2, execWrmsr, hm]
  | some m => rw [selectWrmsr_of_index hm, exec_wrmsrRow, ← privileged_wrmsrOf, execWrmsr, hm]

theorem execRdpmc_eq_select (s : State) : execRdpmc s = exec (selectRdpmc s.core.ecx) s := by
  unfold execRdpmc selectRdpmc
  split_ifs <;> rfl

/-! ### The command of a value (rule R137) -/

/-- The row of a reserved index runs no command. -/
theorem selectCommand_reserved {v : Variant} {n : Word} (hn : msrOfIndex v n = none) (c : Config) (x : Quad) :
    selectCommand c x (selectWrmsr v n) = .ok (selectWrmsr v n) := by
  simp only [selectWrmsr, hn]
  split_ifs <;> rfl

theorem execWrmsr_eq_command {s : State} {i : Instr}
    (h : selectCommand s.cfg s.core.edxEax (selectWrmsr s.cfg.variant s.core.ecx) = .ok i) :
    execWrmsr s = exec i s := by
  cases hm : msrOfIndex s.cfg.variant s.core.ecx with
  | none =>
    rw [selectCommand_reserved hm] at h
    cases h
    exact execWrmsr_eq_select s
  | some m =>
    rw [selectWrmsr_of_index hm] at h
    calc execWrmsr s = privileged s (wrmsrOf s m) := by rw [execWrmsr, hm]
      _ = privileged s (exec i s) := privileged_congr fun h0 => (exec_selectCommand h0 h).symm
      _ = exec i s := privileged_selectCommand h

/-- Settles O16: outside CPL 0 the instruction and its row both raise #GP(0), and at CPL 0 both are the access to the
selected register, the reserved index or the command. -/
theorem selectionIsByEcxAndValue : Obligations.SelectionIsByEcxAndValue := fun s =>
  ⟨execRdmsr_eq_select s, execWrmsr_eq_select s, execRdpmc_eq_select s, fun _ => execWrmsr_eq_command⟩

end Sys2Proof.Machine

/-!
PROOF. The encoder and the decoder: what the encoder writes decodes to the instruction it wrote, and bytes that decode
begin with what the encoder writes (O1, O2, O3).
-/

namespace Sys2Proof.Machine

/-! ### Instruction bytes (rules R131, R132, R134) -/

theorem wordOfBytes_toNat (b0 b1 b2 b3 : Byte) :
    (wordOfBytes b0 b1 b2 b3).toNat =
      b0.toNat + 2 ^ 8 * b1.toNat + 2 ^ 16 * b2.toNat + 2 ^ 24 * b3.toNat := by
  have append {n : Nat} (x : BitVec n) (b : Byte) : (x ++ b).toNat = x.toNat * 2 ^ 8 + b.toNat := by
    rw [BitVec.toNat_append, ← Nat.shiftLeft_add_eq_or_of_lt b.isLt, Nat.shiftLeft_eq]
  simp only [wordOfBytes, append]
  omega

theorem wordOfBytes_bytesOfWord (w : Word) :
    wordOfBytes (w.extractLsb' 0 8) (w.extractLsb' 8 8) (w.extractLsb' 16 8) (w.extractLsb' 24 8) = w := by
  simp only [BitVec.toNat_eq, wordOfBytes_toNat, BitVec.extractLsb'_toNat, Nat.shiftRight_eq_div_pow]
  omega

theorem bytesOfWord_wordOfBytes (b0 b1 b2 b3 : Byte) : bytesOfWord (wordOfBytes b0 b1 b2 b3) = [b0, b1, b2, b3] := by
  simp only [bytesOfWord, List.cons.injEq, and_true, BitVec.toNat_eq, BitVec.extractLsb'_toNat, wordOfBytes_toNat,
    Nat.shiftRight_eq_div_pow]
  omega

theorem decodeImmediate_bytesOfWord (make : Word → Instr) (w : Word) :
    decodeImmediate make (bytesOfWord w) = .ok (make w) := by
  rw [bytesOfWord, decodeImmediate, wordOfBytes_bytesOfWord]

/-- A first byte and an immediate that decodes are the encoding of the instruction decoded. -/
theorem decodeImmediate_ok {c : Config} {make : Word → Instr} {b : Byte} {bs : List Byte} {i : Instr}
    (bytes : ∀ w, (encode c (make w)).bytes = b :: bytesOfWord w) (h : decodeImmediate make bs = .ok i) :
    ∃ rest, b :: bs = (encode c i).bytes ++ rest := by
  unfold decodeImmediate at h
  split at h
  · cases h
    exact ⟨_, by rw [bytes, bytesOfWord_wordOfBytes]; rfl⟩
  · cases h

theorem decodeSecond_ok {c : Config} {b : Byte} {i : Instr} (h : decodeSecond c.variant b = .ok i) :
    (encode c i).bytes = opcode b := by
  unfold decodeSecond at h
  split_ifs at h with wrmsr rdtsc rdmsr rdpmc cpuid
  · subst wrmsr
    cases h
    rfl
  · subst rdtsc
    cases h
    rfl
  · subst rdmsr
    cases h
    rfl
  · subst rdpmc
    cases hv : c.variant <;> rw [hv] at h <;> cases h <;> rfl
  · subst cpuid
    cases h
    rfl

/-- Settles O2: each first byte leaves one instruction, or one for each second byte, and an immediate is its four
bytes. -/
theorem encodeOfDecodedBytes : Obligations.EncodeOfDecodedBytes := by
  intro c bs i h
  cases bs with
  | nil => cases h
  | cons b bs =>
    unfold decodeBytes at h
    rcases ite_eq_iff.mp h with ⟨rfl, h⟩ | ⟨-, h⟩
    case inl =>
      cases bs with
      | nil => cases h
      | cons b1 rest => exact ⟨rest, by rw [decodeSecond_ok h]; rfl⟩
    rcases ite_eq_iff.mp h with ⟨rfl, movEax⟩ | ⟨-, h⟩
    case inl => exact decodeImmediate_ok (fun _ => rfl) movEax
    rcases ite_eq_iff.mp h with ⟨rfl, movEcx⟩ | ⟨-, h⟩
    case inl => exact decodeImmediate_ok (fun _ => rfl) movEcx
    rcases ite_eq_iff.mp h with ⟨rfl, movEdx⟩ | ⟨-, h⟩
    case inl => exact decodeImmediate_ok (fun _ => rfl) movEdx
    rcases ite_eq_iff.mp h with ⟨-, ⟨⟩⟩ | ⟨-, h⟩
    rcases ite_eq_iff.mp h with ⟨rfl, orEax⟩ | ⟨-, h⟩
    case inl => exact decodeImmediate_ok (fun _ => rfl) orEax
    rcases ite_eq_iff.mp h with ⟨rfl, andEax⟩ | ⟨-, h⟩
    case inl => exact decodeImmediate_ok (fun _ => rfl) andEax
    rcases ite_eq_iff.mp h with ⟨rfl, xorSame⟩ | ⟨-, h⟩
    case inl =>
      cases bs with
      | nil => cases xorSame
      | cons m rest =>
        rcases ite_eq_iff.mp xorSame with ⟨rfl, ⟨⟩⟩ | ⟨-, xorSame⟩
        case inl => exact ⟨rest, rfl⟩
        rcases ite_eq_iff.mp xorSame with ⟨rfl, ⟨⟩⟩ | ⟨-, xorSame⟩
        case inl => exact ⟨rest, rfl⟩
        rcases ite_eq_iff.mp xorSame with ⟨rfl, ⟨⟩⟩ | ⟨-, ⟨⟩⟩
        exact ⟨rest, rfl⟩
    rcases ite_eq_iff.mp h with ⟨rfl, ⟨⟩⟩ | ⟨-, h⟩
    case inl => exact ⟨bs, rfl⟩
    rcases ite_eq_iff.mp h with ⟨-, ⟨⟩⟩ | ⟨-, ⟨⟩⟩

/-! ### The values written to TR5, TR6 and TR11 (rules R36, R38, R43) -/

/-- The fields of TR5 with their contents. -/
def tr5Fields (c : Config) (f : Tr5) : List (List Nat × Nat) :=
  [(c.tr5.cntl, f.cntl.toNat), (c.tr5.buffer, f.buffer.toNat), (c.tr5.set, f.set.toNat), (c.tr5.entry, f.entry.toNat),
    (c.tr5.cd, boolNat f.cd), (c.tr5.wb, boolNat f.wb)]

/-- The fields of TR11 with their contents. -/
def tr11Fields (v : Variant) (f : Tr11) : List (List Nat × Nat) :=
  [(tr11ControlBits v, f.control.toNat), (tr11SetBits v, f.set.toNat), (tr11BankBits v, f.bank.toNat),
    ([2, 3], f.way.toNat), (tr11TypeBits v, f.btype.toNat)]

theorem packTr5_eq (c : Config) (f : Tr5) : packTr5 c f = packFields (tr5Fields c f) := by
  simp [packTr5, tr5Fields, packFields, BitVec.or_assoc]

theorem packTr11_eq (v : Variant) (f : Tr11) : packTr11 v f = packFields (tr11Fields v f) := by
  simp [packTr11, tr11Fields, packFields, BitVec.or_assoc]

/-- Fields within the defined bits of a register make a value without a reserved one (rule R138). -/
theorem packFields_noReservedOne {c : Config} {m : Msr} {fs : List (List Nat × Nat)} {ps : List Nat}
    (mask : msrMask c m = maskOf ps) (h : ∀ p ∈ positions fs, p ∈ ps) : NoReservedOne c m (packFields fs) := by
  intro n hn
  have lt : n < 64 := by
    by_contra far
    rw [BitVec.getLsbD_of_ge _ n (by omega)] at hn
    cases hn
  have mem : n ∈ positions fs := by
    by_contra out
    rw [packFields_of_not_mem out] at hn
    cases hn
  rw [mask]
  exact maskOf_of_mem (h n mem) lt

/-- The fields of TR11 share no bit and lie in bits 31:0 (rule R43). -/
theorem tr11Fields_layout (v : Variant) (f : Tr11) :
    (positions (tr11Fields v f)).Nodup ∧ ∀ p ∈ positions (tr11Fields v f), p < 32 := by
  have whole : positions (tr11Fields v f) = tr11Positions v := by simp [positions, tr11Fields, tr11Positions]
  rw [whole]
  cases v <;> decide

theorem unpackTr11_pack {v : Variant} {f : Tr11} (fits : tr11Fits v f.btype f.set f.bank = true)
    (control : v = .p → f.control.toNat < 4) : unpackTr11 v (packTr11 v f) = f := by
  obtain ⟨nodup, range⟩ := tr11Fields_layout v f
  have field {w : Nat} {ps : List Nat} {x : BitVec w} (hf : (ps, x.toNat) ∈ tr11Fields v f) :=
    fieldBits_packFields nodup (fun p hp => (range p hp).trans (by decide)) hf
  have widths : f.control.toNat < 2 ^ (tr11ControlBits v).length ∧ f.set.toNat < 2 ^ (tr11SetBits v).length ∧
      f.bank.toNat < 2 ^ (tr11BankBits v).length ∧ f.btype.toNat < 2 ^ (tr11TypeBits v).length := by
    cases v with
    | p =>
      simp only [tr11Fits, Bool.and_eq_true, beq_iff_eq] at fits
      obtain ⟨btype, bank⟩ := fits
      rw [btype, bank]
      exact ⟨control rfl, f.set.isLt, by decide, by decide⟩
    | pmmx => exact ⟨f.control.isLt, of_decide_eq_true fits, f.bank.isLt, f.btype.isLt⟩
  obtain ⟨controlFits, setFits, bankFits, typeFits⟩ := widths
  rw [packTr11_eq, unpackTr11, field (x := f.control) (by simp [tr11Fields]) controlFits,
    field (x := f.set) (by simp [tr11Fields]) setFits, field (x := f.bank) (by simp [tr11Fields]) bankFits,
    field (ps := [2, 3]) (x := f.way) (by simp [tr11Fields]) f.way.isLt,
    field (x := f.btype) (by simp [tr11Fields]) typeFits]

theorem packTr11_noReservedOne (c : Config) (f : Tr11) : NoReservedOne c .tr11 (packTr11 c.variant f) := by
  rw [packTr11_eq]
  exact packFields_noReservedOne rfl fun p hp => by simpa [positions, tr11Fields] using hp

section Check
variable {c : Config} (hc : c.check = true)
include hc

/-- The fields of TR5 share no bit and lie in bits 31:0 (rule R36). -/
theorem tr5Fields_layout (f : Tr5) : (positions (tr5Fields c f)).Nodup ∧ ∀ p ∈ positions (tr5Fields c f), p < 32 := by
  simp only [Config.check, LayoutTr5.check, Bool.and_eq_true, fieldsFit_iff] at hc
  obtain ⟨⟨⟨⟨-, ⟨-, range, nodup⟩, -⟩, -⟩, -⟩, -⟩ := hc
  refine ⟨nodup, fun p hp => ?_⟩
  have := mem_bitRange.mp (range p hp)
  omega

/-- The widths of the fields of TR5 but Entry (rule R36). -/
theorem check_tr5_widths : c.tr5.cntl.length = 2 ∧ c.tr5.buffer.length = 3 ∧ c.tr5.set.length = 7 ∧
    c.tr5.cd.length = 1 ∧ c.tr5.wb.length = 1 := by
  simp only [Config.check, LayoutTr5.check, Bool.and_eq_true, beq_iff_eq] at hc
  tauto

theorem unpackTr5_pack {f : Tr5} (fits : entryFits c.variant f.entry = true) : unpackTr5 c (packTr5 c f) = f := by
  obtain ⟨nodup, range⟩ := tr5Fields_layout hc f
  obtain ⟨cntl, buffer, set, cd, wb⟩ := check_tr5_widths hc
  obtain ⟨-, -, entry, -, -⟩ := check_widths hc
  have lt : ∀ p ∈ positions (tr5Fields c f), p < 64 := fun p hp => (range p hp).trans (by decide)
  have field {w : Nat} {ps : List Nat} {x : BitVec w} (hf : (ps, x.toNat) ∈ tr5Fields c f) :=
    fieldBits_packFields nodup lt hf
  have flag {ps : List Nat} {b : Bool} (hf : (ps, boolNat b) ∈ tr5Fields c f) := fieldFlag_packFields nodup lt hf
  have entryWidth : f.entry.toNat < 2 ^ c.tr5.entry.length := by
    rw [entry]
    cases hv : c.variant with
    | p => exact entryFits_p (hv ▸ fits)
    | pmmx => exact f.entry.isLt
  rw [packTr5_eq, unpackTr5, field (x := f.cntl) (by simp [tr5Fields]) (by rw [cntl]; exact f.cntl.isLt),
    field (x := f.buffer) (by simp [tr5Fields]) (by rw [buffer]; exact f.buffer.isLt),
    field (x := f.set) (by simp [tr5Fields]) (by rw [set]; exact f.set.isLt),
    field (x := f.entry) (by simp [tr5Fields]) entryWidth, flag (b := f.cd) (by simp [tr5Fields]) cd,
    flag (b := f.wb) (by simp [tr5Fields]) wb]

end Check

theorem packTr5_noReservedOne (c : Config) (f : Tr5) : NoReservedOne c .tr5 (packTr5 c f) := by
  rw [packTr5_eq]
  exact packFields_noReservedOne rfl fun p hp => by simpa [positions, tr5Fields] using hp

theorem packTr6_noReservedOne (c : Config) (f : Tr6) : NoReservedOne c .tr6 (packTr6 c f) := by
  rw [packTr6_eq]
  exact packFields_noReservedOne rfl fun p hp => by simpa [positions, tr6Fields] using hp

/-! ### Words of each level (rules R132, R136, R137) -/

theorem decode_bytes {c : Config} {bs : List Byte} {i : Instr} (h : decodeBytes c.variant bs = .ok i) :
    decode c { bytes := bs } = .ok i := by
  rw [decode, h]
  cases i <;> rfl

theorem decode_rdmsrWords (c : Config) (n : Word) : decode c (rdmsrWords n) = .ok (selectRdmsr c.variant n) := rfl

theorem decode_wrmsrWords (c : Config) (n : Word) : decode c (wrmsrWords n) = .ok (selectWrmsr c.variant n) := rfl

theorem decode_rdpmcWords {c : Config} (hm : c.variant = .pmmx) (n : Word) :
    decode c (rdpmcWords n) = .ok (selectRdpmc n) := by
  rw [decode, hm]
  rfl

theorem decode_tr5Words {c : Config} (hc : c.check = true) {f : Tr5} (fits : entryFits c.variant f.entry = true) :
    decode c (tr5Words c f) = .ok (tr5Command f) := by
  have select : decode c (tr5Words c f) = selectCommand c (packTr5 c f) .wrmsrTr5 := rfl
  rw [select, selectCommand, noReservedOne_iff.mp (packTr5_noReservedOne c f), unpackTr5_pack hc fits]
  rfl

theorem decode_tr6Words {c : Config} (hc : c.check = true) (f : Tr6) :
    decode c (tr6Words c f) = .ok (tr6Command f) := by
  have select : decode c (tr6Words c f) = selectCommand c (packTr6 c f) .wrmsrTr6 := rfl
  rw [select, selectCommand, noReservedOne_iff.mp (packTr6_noReservedOne c f), unpackTr6_pack hc f]
  rfl

theorem decode_tr11Words {c : Config} {f : Tr11} (fits : tr11Fits c.variant f.btype f.set f.bank = true)
    (control : c.variant = .p → f.control.toNat < 4) : decode c (tr11Words c f) = .ok (tr11Command f) := by
  have select : decode c (tr11Words c f) = selectCommand c (packTr11 c.variant f) .wrmsrTr11 := rfl
  rw [select, selectCommand, noReservedOne_iff.mp (packTr11_noReservedOne c f), unpackTr11_pack fits control]
  rfl

theorem ne_of_toNat_lt {n w : Word} {k : Nat} (h : k ≤ n.toNat) (lt : w.toNat < k) : n ≠ w := by
  rintro rfl
  omega

/-- An index from 14h on selects its own row (rules R163, R165). -/
theorem select_above (v : Variant) {n : Word} (h : 0x14 ≤ n.toNat) :
    selectRdmsr v n = .rdmsrReservedAbove n ∧ selectWrmsr v n = .wrmsrReservedAbove n := by
  have other (w : Word) := ne_of_toNat_lt (w := w) h
  rw [selectRdmsr, selectWrmsr, msrOfIndex_above v h]
  simp only [other 0x03 (by decide), other 0x04 (by decide), other 0x0A (by decide), other 0x0F (by decide), if_false,
    and_self]

theorem selectRdpmc_other {n : Word} (h : 2 ≤ n.toNat) : selectRdpmc n = .rdpmcOther n := by
  have other (w : Word) := ne_of_toNat_lt (w := w) h
  rw [selectRdpmc, if_neg (other 0 (by decide)), if_neg (other 1 (by decide))]

/-- A TR11 row that `P` has not, since its control needs bit 12 (rule R44). -/
theorem decode_tr11Words_pmmx {c : Config} {f : Tr11}
    (h : (decide (c.variant = .pmmx) && tr11Fits c.variant f.btype f.set f.bank) = true) :
    decode c (tr11Words c f) = .ok (tr11Command f) := by
  obtain ⟨hm, fits⟩ := (Bool.and_eq_true _ _).mp h
  exact decode_tr11Words fits fun hp => by rw [hp] at hm; cases hm

/-- Settles O1: the bytes of a level 1 row name it, the index of a level 2 row selects it, and the value of a level 3
row has no reserved one and its fields unpack to the operands. -/
theorem decodeOfEncode : Obligations.DecodeOfEncode := by
  intro c i hc hi
  cases i with
  | wrmsr | rdtsc | rdmsr | cpuid | hlt => exact decode_bytes rfl
  | rdpmc | rdpmcOnP =>
    refine decode_bytes ?_
    rw [of_decide_eq_true hi]
    rfl
  | movImm r imm =>
    cases r <;> exact decode_bytes (decodeImmediate_bytesOfWord _ imm)
  | orEaxImm imm | andEaxImm imm => exact decode_bytes (decodeImmediate_bytesOfWord _ imm)
  | xorSame r => cases r <;> exact decode_bytes rfl
  | rdmsrMca | rdmsrMct | rdmsrTr1 | rdmsrTr3 | rdmsrTr4 | rdmsrTr5 | rdmsrTr6 | rdmsrTr7 | rdmsrTr9 | rdmsrTr10 |
    rdmsrTr11 | rdmsrTr12 | rdmsrTsc | rdmsrCesr | rdmsrCtr0 | rdmsrCtr1 | rdmsrReserved03 | rdmsrReserved0A |
    rdmsrReserved0F => exact decode_rdmsrWords c _
  | wrmsrMca | wrmsrMct | wrmsrTr1 | wrmsrTr3 | wrmsrTr4 | wrmsrTr5 | wrmsrTr6 | wrmsrTr7 | wrmsrTr9 | wrmsrTr10 |
    wrmsrTr11 | wrmsrTr12 | wrmsrTsc | wrmsrCesr | wrmsrCtr0 | wrmsrCtr1 | wrmsrReserved03 | wrmsrReserved0A |
    wrmsrReserved0F => exact decode_wrmsrWords c _
  | rdmsrTr2 | rdmsrReserved04 =>
    refine (decode_rdmsrWords c _).trans ?_
    rw [of_decide_eq_true hi]
    rfl
  | wrmsrTr2 | wrmsrReserved04 =>
    refine (decode_wrmsrWords c _).trans ?_
    rw [of_decide_eq_true hi]
    rfl
  | rdmsrReservedAbove n => exact (decode_rdmsrWords c n).trans (by rw [(select_above _ (of_decide_eq_true hi)).1])
  | wrmsrReservedAbove n => exact (decode_wrmsrWords c n).trans (by rw [(select_above _ (of_decide_eq_true hi)).2])
  | rdpmcCtr0 | rdpmcCtr1 => exact decode_rdpmcWords (of_decide_eq_true hi) _
  | rdpmcOther n =>
    obtain ⟨hm, other⟩ := (Bool.and_eq_true _ _).mp hi
    exact (decode_rdpmcWords (of_decide_eq_true hm) n).trans (by rw [selectRdpmc_other (of_decide_eq_true other)])
  | tr5Normal | tr5WriteCode | tr5WriteData | tr5ReadCode | tr5ReadData | tr5FlushCode | tr5FlushDataAll |
    tr5FlushDataLine => exact decode_tr5Words hc hi
  | tr6WriteCode | tr6WriteData | tr6ReadCode | tr6ReadData => exact decode_tr6Words hc _
  | tr11Normal | tr11Write | tr11ReadData | tr11Flush => exact decode_tr11Words hi fun _ => by simp
  | tr11ReadTag | tr11Reserved4 | tr11Reserved6 | tr11Reserved7 => exact decode_tr11Words_pmmx hi

/-- Settles O3: the first words are read byte by byte, the last three are encodings of rows with the suggested
layouts. -/
theorem sampleWordsDecode : Obligations.SampleWordsDecode := by
  have layouts (v : Variant) : (Config.suggested v).check = true := by cases v <;> decide
  have row (v : Variant) (i : Instr) (hi : i.check (Config.suggested v) = true) :=
    decodeOfEncode (Config.suggested v) i (layouts v) hi
  have value : packTr11 .pmmx ⟨1, 3, 1, 1, 2⟩ = 0x02000345 := by decide
  have written := row .pmmx (.tr11Write 2 3 1 1) rfl
  rw [encode, tr11Words, commandWords, show (Config.suggested .pmmx).variant = .pmmx from rfl, value] at written
  exact ⟨rfl, rfl, rfl, rfl, rfl, rfl, row .p .rdmsrTr2 rfl, row .pmmx .rdmsrReserved04 rfl, written⟩

end Sys2Proof.Machine

/-!
PROOF. The helper instructions, WRMSR of a register that starts no command, and the privilege of every access to a
register (O10, O12, O18, O19).
-/

namespace Sys2Proof.Machine

/-! ### The helper instructions (rules R170 to R174) -/

theorem read_write_same (c : Core) (r : Reg) (v : Word) : (c.write r v).read r = v := by cases r <;> rfl

/-- An instruction of `n` bytes that writes one register and nothing else. -/
def OnlyReg (r : Reg) (n : Nat) (s t : State) : Prop :=
  EipPast n s t ∧ CoreKeptBut [regName r, .eip] s t ∧ KeptBut [.core] s t

theorem onlyReg_write (s : State) (r : Reg) (v : Word) (n : Nat) :
    OnlyReg r n s ((s.withCore (s.core.write r v)).advance n) := by
  have eip : (s.core.write r v).eip = s.core.eip := by cases r <;> rfl
  refine ⟨fun lt => ?_, fun other kept => ?_, rfl, fun p hp => ?_⟩
  · rw [advance_core, withCore_core, eip]
    exact eipAfter_toNat lt
  · cases r <;> cases other <;> simp_all [CoreReg.kept, Core.write, regName]
  · cases p <;> simp_all [Part.kept]

/-- Settles O10: each of the four is one register written. -/
theorem helperInstructionResults : Obligations.HelperInstructionResults := fun s r imm =>
  ⟨⟨_, rfl, read_write_same _ r imm, onlyReg_write s r imm 5⟩,
    ⟨_, rfl, read_write_same _ r 0, onlyReg_write s r 0 2⟩,
    ⟨_, rfl, fun _ => BitVec.getLsbD_or, onlyReg_write s .eax (s.core.eax ||| imm) 5⟩,
    ⟨_, rfl, fun _ => BitVec.getLsbD_and, onlyReg_write s .eax (s.core.eax &&& imm) 5⟩⟩

/-- Settles O12: the HALT state is entered behind the privilege check. -/
theorem hltResult : Obligations.HltResult := by
  intro s
  refine ⟨fun h0 => ⟨_, privileged_zero h0 _, rfl, fun lt => eipAfter_toNat lt, fun r hr => ?_, rfl, fun p hp => ?_⟩,
    fun user => privileged_user user _⟩
  · cases r <;> simp_all [CoreReg.kept]
  · cases p <;> simp_all [Part.kept]

/-! ### The write that starts no command (rule R164) -/

/-- The parts of the state a register written without a command lies in, with the buffers and the record the write
reaches (rules R185, R186, R222). -/
abbrev registerParts : List Part := [.parity, .cacheTest, .tlbTest, .tlbSequence, .btbTest, .tr12, .perf]

theorem writeMsr_onlyParts {m : Msr} {pre : State → Bool} {effect : Quad → State → State} {s : State}
    {parts : List Part} (h0 : s.core.cpl = 0) (free : NoReservedOne s.cfg m s.core.edxEax) (hpre : pre s = true)
    (core : (effect s.core.edxEax s).core = s.core) (kept : KeptBut parts s (effect s.core.edxEax s))
    (among : parts ⊆ registerParts) : ∃ t, writeMsr m pre effect s = .next t ∧ OnlyParts registerParts s t :=
  ⟨_, writeMsr_completes h0 free hpre, onlyParts_advance (kept.mono among) core⟩

theorem keptBut_parity (s : State) (x : Parity) : KeptBut [.parity] s (s.withParity x) :=
  ⟨rfl, fun p hp => by cases p <;> simp_all [Part.kept]⟩

theorem keptBut_cacheTest (s : State) (x : CacheTest) : KeptBut [.cacheTest] s (s.withCacheTest x) :=
  ⟨rfl, fun p hp => by cases p <;> simp_all [Part.kept]⟩

theorem keptBut_writeTr7 (v : Quad) (s : State) : KeptBut [.tlbTest, .tlbSequence] s (writeTr7 v s) :=
  ⟨rfl, fun p hp => by cases p <;> simp_all [Part.kept, writeTr7]⟩

/-- Inside its test procedure a register that starts no command is written (rules R24, R164): the counterpart of
`wrmsrOf_outside`. -/
theorem wrmsrOf_completes {s : State} {m : Msr} (h0 : s.core.cpl = 0)
    (noCommand : m ∉ [Msr.mca, .mct, .tr5, .tr6, .tr11]) (free : NoReservedOne s.cfg m s.core.edxEax)
    (hp : m = .tr2 → s.cfg.variant = .p) (hpre : testPre s m = true) :
    ∃ t, wrmsrOf s m = .next t ∧ OnlyParts registerParts s t := by
  cases m with
  | mca | mct | tr5 | tr6 | tr11 => simp at noCommand
  | tr1 =>
    rw [wrmsrOf, execWrmsrTr1]
    exact writeMsr_onlyParts h0 free hpre rfl (keptBut_parity s _) (by decide)
  | tr2 =>
    rw [wrmsrOf, execWrmsrTr2, hp rfl]
    exact writeMsr_onlyParts h0 free hpre rfl (keptBut_cacheTest s _) (by decide)
  | tr3 | tr4 => exact writeMsr_onlyParts h0 free hpre rfl (keptBut_cacheTest s _) (by decide)
  | tr7 => exact writeMsr_onlyParts h0 free hpre rfl (keptBut_writeTr7 _ s) (by decide)
  | tr9 | tr10 => exact writeMsr_onlyParts h0 free hpre rfl (keptBut_btbTest s _) (by decide)
  | tr12 =>
    rw [wrmsrOf, execWrmsrTr12]
    exact writeMsr_onlyParts h0 free hpre rfl (keptBut_tr12 s _) (by decide)
  | tsc | cesr | ctr0 | ctr1 =>
    simp only [wrmsrOf, execWrmsrTsc, execWrmsrCesr, execWrmsrCtr0, execWrmsrCtr1]
    exact writeMsr_onlyParts h0 free hpre rfl (keptBut_perf s _) (by decide)

theorem cacheTestPre_of_set {s : State} (test : CacheTestSet s) : cacheTestPre s = true := by
  rw [cacheTestPre, Core.cd, Core.nw, test.1, test.2]
  rfl

theorem tlbTestPre_of_set {s : State} (test : TlbTestSet s) : tlbTestPre s = true := by
  rw [tlbTestPre, test]
  rfl

/-- The conditions of the three test procedures give the one of the register (rules R182, R222, R252). -/
theorem testPre_of_sets {s : State} {m : Msr} (noCommand : m ∉ [Msr.mca, .mct, .tr5, .tr6, .tr11])
    (cache : m ∈ [Msr.tr2, .tr3, .tr4] → CacheTestSet s) (tlb : m = .tr7 → TlbTestSet s)
    (btb : m ∈ [Msr.tr9, .tr10] → BtbTestSet s) : testPre s m = true := by
  cases m with
  | tr2 | tr3 | tr4 => exact cacheTestPre_of_set (cache (by simp))
  | tr7 => exact tlbTestPre_of_set (tlb rfl)
  | tr9 | tr10 => exact btb (by simp)
  | tr5 | tr6 | tr11 => simp at noCommand
  | mca | mct | tr1 | tr12 | tsc | cesr | ctr0 | ctr1 => rfl

/-- WRMSR writes the register its index selects (rule R164). -/
theorem execWrmsr_of_index {s : State} {m : Msr} (h0 : s.core.cpl = 0)
    (hm : msrOfIndex s.cfg.variant s.core.ecx = some m) : execWrmsr s = wrmsrOf s m := by
  rw [execWrmsr, privileged_zero h0, hm]

/-- Settles O18: the row and the instruction are the one write of the register, which completes. -/
theorem wrmsrCompletes : Obligations.WrmsrCompletes := by
  intro s m h0 noCommand free cache tlb btb
  have completes (hp : m = .tr2 → s.cfg.variant = .p) :=
    wrmsrOf_completes h0 noCommand free hp (testPre_of_sets noCommand cache tlb btb)
  refine ⟨fun hp => ?_, fun hm => ?_⟩
  · rw [exec_wrmsrRow]
    exact completes hp
  · rw [show exec .wrmsr s = wrmsrOf s m from execWrmsr_of_index h0 hm]
    exact completes fun tr2 => msrOfIndex_tr2 (tr2 ▸ hm)

/-! ### Every access outside CPL 0 (rules R162, R167) -/

/-- An outcome behind the privilege check is a fault outside CPL 0. -/
theorem faultsGp_of_privileged {s : State} {r : Result} (user : s.core.cpl ≠ 0) (guarded : privileged s r = r) :
    FaultsGp s r := guarded ▸ privileged_user user r

/-- The rows of an index are behind the privilege check, whether it selects a register or is reserved. -/
theorem privileged_select (s : State) (n : Word) :
    privileged s (exec (selectRdmsr s.cfg.variant n) s) = exec (selectRdmsr s.cfg.variant n) s ∧
    privileged s (exec (selectWrmsr s.cfg.variant n) s) = exec (selectWrmsr s.cfg.variant n) s := by
  cases hm : msrOfIndex s.cfg.variant n with
  | none =>
    obtain ⟨read, write⟩ := exec_select_reserved hm
    rw [read, write]
    exact ⟨privileged_idem s _, privileged_idem s _⟩
  | some m =>
    rw [selectRdmsr_of_index hm, selectWrmsr_of_index hm, exec_rdmsrRow, exec_wrmsrRow]
    exact ⟨privileged_rdmsrOf s m, privileged_wrmsrOf s m⟩

/-- The command of an index and a value is behind the privilege check. -/
theorem privileged_command {s : State} {n : Word} {v : Quad} {i : Instr}
    (h : selectCommand s.cfg v (selectWrmsr s.cfg.variant n) = .ok i) : privileged s (exec i s) = exec i s := by
  cases hm : msrOfIndex s.cfg.variant n with
  | none =>
    rw [selectCommand_reserved hm] at h
    cases h
    exact (privileged_select s n).2
  | some m =>
    rw [selectWrmsr_of_index hm] at h
    exact privileged_selectCommand h

/-- Settles O19: every form of the access is behind the privilege check. -/
theorem msrAccessNeedsCpl0 : Obligations.MsrAccessNeedsCpl0 := fun s ecx _ user =>
  have ⟨read, write⟩ := privileged_select s ecx
  ⟨privileged_user user _, privileged_user user _, faultsGp_of_privileged user read, faultsGp_of_privileged user write,
    fun _ h => faultsGp_of_privileged user (privileged_command h)⟩

end Sys2Proof.Machine

/-!
PROOF. WRMSR to the registers of the cache and TLB tests: the portion TR2 and TR3 write, what TR4 and TR7 give back, and
the command that TR5, TR6 and TR11 run (O26, O27, O29).
-/

namespace Sys2Proof.Machine

/-! ### The portion TR5L selects (rules R185, R186) -/

theorem portion_setPortion {α : Type} (d : Vector α 8) (k j : BitVec 3) (x : α) :
    portion (setPortion d k x) j = if j = k then x else portion d j := by
  simp only [portion, setPortion, Vector.getElem_set, BitVec.toNat_inj, eq_comm]

/-- Settles O26: the write of the register replaces the selected portion of its buffer. -/
theorem wrmsrTr2AndTr3 : Obligations.WrmsrTr2AndTr3 := by
  intro s h0 test
  have pre := cacheTestPre_of_set test
  have only (x : CacheTest) : OnlyParts [.cacheTest] s ((s.withCacheTest x).advance 2) :=
    onlyParts_advance (keptBut_cacheTest s x) rfl
  refine ⟨fun edx => ?_, fun hp lt => ?_⟩
  · have lt : s.core.edxEax.toNat < 2 ^ 32 := by
      rw [edxEax_toNat, edx]
      simpa using s.core.eax.isLt
    have eax := lowHalf_edxEax s.core
    refine ⟨_, writeMsr_completes (effect := writeTr3) h0 (noReservedOne_of_lt low32_ones lt) pre, eax, fun k => ?_,
      rfl, only _⟩
    rw [← eax]
    exact portion_setPortion _ _ k _
  · rw [edxEaxNat_eq] at lt ⊢
    have defined : ∀ n < 4, (0xF : Quad).getLsbD n = true := by decide
    have row : exec .wrmsrTr2 s = writeMsr .tr2 cacheTestPre writeTr2 s := by
      show execWrmsrTr2 s = _
      rw [execWrmsrTr2, hp]
    refine ⟨_, row.trans (writeMsr_completes h0 (noReservedOne_of_lt (k := 4) defined lt) pre), ?_, fun k => ?_, rfl,
      only _⟩
    · exact (BitVec.extractLsb'_toNat ..).trans (Nat.mod_eq_of_lt lt)
    · exact portion_setPortion _ _ k _

/-! ### A field determines the bits it is read from -/

/-- Values with the same field have the same bits at its positions: the converse of `fieldNat_congr`. -/
theorem getLsbD_of_fieldNat_eq {ps : List Nat} {v w : Quad} (h : fieldNat ps v = fieldNat ps w) :
    ∀ p ∈ ps, v.getLsbD p = w.getLsbD p := by
  induction ps with
  | nil => nofun
  | cons p ps ih =>
    rw [fieldNat, fieldNat] at h
    have low (b : Bool) (n : Nat) : (boolNat b + 2 * n).testBit 0 = b := by
      cases b <;> simp [boolNat, Nat.testBit_zero]
    have first : v.getLsbD p = w.getLsbD p := by rw [← low (v.getLsbD p) (fieldNat ps v), h, low]
    rw [first] at h
    exact List.forall_mem_cons.mpr ⟨first, ih (by omega)⟩

theorem getLsbD_of_fieldBits_eq {n : Nat} {ps : List Nat} {v w : Quad} (fits : ps.length ≤ n)
    (h : fieldBits n ps v = fieldBits n ps w) : ∀ p ∈ ps, v.getLsbD p = w.getLsbD p := by
  have narrow (x : Quad) : (fieldBits n ps x).toNat = fieldNat ps x := by
    rw [fieldBits, BitVec.toNat_ofNat]
    exact Nat.mod_eq_of_lt ((fieldNat_lt ps x).trans_le (Nat.pow_le_pow_right (by decide) fits))
  exact getLsbD_of_fieldNat_eq (by rw [← narrow v, ← narrow w, h])

theorem getLsbD_of_fieldFlag_eq {ps : List Nat} {v w : Quad} (one : ps.length = 1)
    (h : fieldFlag ps v = fieldFlag ps w) : ∀ p ∈ ps, v.getLsbD p = w.getLsbD p := by
  obtain ⟨p, rfl⟩ := List.length_eq_one_iff.mp one
  have bit (x : Quad) : fieldFlag [p] x = x.getLsbD p := by
    rw [fieldFlag, fieldNat, fieldNat]
    cases x.getLsbD p <;> rfl
  simpa [bit] using h

section Check
variable {c : Config} (hc : c.check = true)
include hc

/-- TR4[27:0] leaves the tag 23 bits on either variant (rule R33). -/
theorem check_tr4_tag : c.tr4.tag.length ≤ 23 := by
  have valid := check_tr4_valid hc
  obtain ⟨-, lru, -, -, -⟩ := check_widths hc
  simp only [Config.check, LayoutTr4.check, Bool.and_eq_true, fieldsFit_iff] at hc
  obtain ⟨⟨⟨⟨⟨⟨-, range, nodup⟩, reserved⟩, -⟩, -⟩, -⟩, -⟩ := hc
  have fields : [c.tr4.tag, c.tr4.lru, c.tr4.valid].flatten = c.tr4.tag ++ c.tr4.lru ++ c.tr4.valid := by simp
  rw [fields] at range nodup
  have positions : (bitRange 27 0).length = 28 := rfl
  cases hv : c.variant with
  | p =>
    simp only [hv, Bool.and_eq_true, Bool.not_eq_true', List.contains_eq_mem, decide_eq_false_iff_not] at reserved
    obtain ⟨three, four⟩ := reserved
    have bound := (List.subperm_of_subset (l₁ := 3 :: 4 :: (c.tr4.tag ++ c.tr4.lru ++ c.tr4.valid))
      (List.nodup_cons.mpr ⟨by simpa using three, List.nodup_cons.mpr ⟨four, nodup⟩⟩)
      (List.forall_mem_cons.mpr ⟨by decide, List.forall_mem_cons.mpr ⟨by decide, range⟩⟩)).length_le
    have one : c.tr4.lru.length = 1 := lru.trans (by rw [hv]; rfl)
    simp only [List.length_cons, List.length_append] at bound
    omega
  | pmmx =>
    have bound := (List.subperm_of_subset nodup range).length_le
    have three : c.tr4.lru.length = 3 := lru.trans (by rw [hv]; rfl)
    simp only [List.length_append] at bound
    omega

/-- A TR4 value is its fields: the converse of `unpackTr4_congr`. -/
theorem getLsbD_of_unpackTr4_eq {v w : Quad} (h : unpackTr4 c v = unpackTr4 c w) :
    ∀ p ∈ c.tr4.tag ++ c.tr4.lru ++ c.tr4.valid, v.getLsbD p = w.getLsbD p := by
  obtain ⟨-, lruWidth, -, -, -⟩ := check_widths hc
  have lruFits : c.tr4.lru.length ≤ 3 := by
    rw [lruWidth]
    cases c.variant <;> decide
  simp only [unpackTr4, Tr4.mk.injEq] at h
  obtain ⟨tag, lru, valid⟩ := h
  simp only [List.forall_mem_append]
  exact ⟨⟨getLsbD_of_fieldBits_eq (check_tr4_tag hc) tag, getLsbD_of_fieldBits_eq lruFits lru⟩,
    getLsbD_of_fieldBits_eq (check_tr4_valid hc).le valid⟩

/-- A TR7 value is its fields: the converse of `unpackTr7_congr`. -/
theorem getLsbD_of_unpackTr7_eq {v w : Quad} (h : unpackTr7 c v = unpackTr7 c w) :
    ∀ p ∈ c.tr7.pa ++ c.tr7.pcd ++ c.tr7.pwt ++ c.tr7.lru ++ c.tr7.h ++ c.tr7.entry, v.getLsbD p = w.getLsbD p := by
  obtain ⟨paWidth, flags⟩ := check_tr7_widths hc
  obtain ⟨-, -, -, lruWidth, entryWidth⟩ := check_widths hc
  have fits : c.tr7.lru.length ≤ 3 ∧ c.tr7.entry.length ≤ 6 := by
    rw [lruWidth, entryWidth]
    cases c.variant <;> decide
  simp only [unpackTr7, Tr7.mk.injEq] at h
  obtain ⟨pa, pcd, pwt, lru, hit, entry⟩ := h
  have flag {ps : List Nat} (hps : ps ∈ [c.tr7.pcd, c.tr7.pwt, c.tr7.h]) (e : fieldFlag ps v = fieldFlag ps w) :=
    getLsbD_of_fieldFlag_eq (flags ps hps) e
  simp only [List.forall_mem_append]
  exact ⟨⟨⟨⟨⟨getLsbD_of_fieldBits_eq paWidth.le pa, flag (by simp) pcd⟩, flag (by simp) pwt⟩,
    getLsbD_of_fieldBits_eq fits.1 lru⟩, flag (by simp) hit⟩, getLsbD_of_fieldBits_eq fits.2 entry⟩

end Check

theorem mem_of_maskOf {ps : List Nat} {n : Nat} (h : (maskOf ps).getLsbD n = true) : n ∈ ps := by
  simp only [getLsbD_maskOf, Bool.and_eq_true, decide_eq_true_eq] at h
  exact h.2

/-- Settles O27: the fields written are those read, and they determine every defined bit. -/
theorem tr4AndTr7ReadBack : Obligations.Tr4AndTr7ReadBack := by
  intro s h0 hc
  refine ⟨fun test free => ?_, fun test free => ?_⟩
  · refine ⟨_, writeMsr_completes (effect := writeTr4) h0 free (cacheTestPre_of_set test), rfl, rfl,
      onlyParts_advance (keptBut_cacheTest s _) rfl, fun c hcpl => ?_⟩
    obtain ⟨u, done, value, -⟩ :=
      (readMsrMasked_returns (s := ((writeTr4 s.core.edxEax s).advance 2).withCore c) hcpl tr4ReadMask
        fun t => packTr4 t.cfg t.cacheTest.tr4).completes
    have fields : unpackTr4 s.cfg u.core.edxEax = unpackTr4 s.cfg s.core.edxEax := by
      rw [value]
      exact unpackTr4_read hc (tr4Fits_unpack hc _) _ _
    exact ⟨u, done, fun n hn => getLsbD_of_unpackTr4_eq hc fields n (mem_of_maskOf hn)⟩
  · refine ⟨_, writeMsr_completes (effect := writeTr7) h0 free (tlbTestPre_of_set test), rfl, rfl, rfl,
      onlyParts_advance (keptBut_writeTr7 _ s) rfl, fun c hcpl => ?_⟩
    obtain ⟨u, done, value, -⟩ :=
      (readMsrMasked_returns (s := ((writeTr7 s.core.edxEax s).advance 2).withCore c) hcpl (definedBits .tr7)
        fun t => packTr7 t.cfg t.tlbTest.tr7).completes
    have fields : unpackTr7 s.cfg u.core.edxEax = unpackTr7 s.cfg s.core.edxEax := by
      rw [value]
      exact unpackTr7_read hc (tr7Fits_unpack hc _) _
    exact ⟨u, done, fun n hn => getLsbD_of_unpackTr7_eq hc fields n (mem_of_maskOf hn)⟩

/-! ### The command of a command register (rules R188, R228, R263) -/

/-- A command register written with a value of which no reserved bit is one runs the command it selects, once the write
completes. -/
theorem commandRuns {s t : State} {m : Msr} (h0 : s.core.cpl = 0) (hm : m ∈ [Msr.tr5, .tr6, .tr11])
    (free : NoReservedOne s.cfg m s.core.edxEax) (done : wrmsrOf s m = .next t) :
    ∃ i u, selectCommand s.cfg s.core.edxEax (wrmsrRow m) = .ok i ∧ exec (wrmsrRow m) s = .next u ∧
      exec i s = .next u := by
  have selects : ∃ i, selectCommand s.cfg s.core.edxEax (wrmsrRow m) = .ok i := by
    simp only [List.mem_cons, List.not_mem_nil, or_false] at hm
    rcases hm with rfl | rfl | rfl <;>
      exact ⟨_, if_neg (by rw [noReservedOne_iff.mp free]; exact Bool.false_ne_true)⟩
  obtain ⟨i, hi⟩ := selects
  exact ⟨i, t, hi, (exec_wrmsrRow m s).trans done, (exec_selectCommand h0 hi).trans done⟩

/-- A TR6 command completes: a write with TR7.H = 1, a read that does not find two matches (rules R224 to R227). -/
theorem tr6Meaning_completes {f : Tr6} {s : State} (h0 : s.core.cpl = 0) (test : TlbTestSet s)
    (write : f.op = false → s.tlbTest.tr7.h = true)
    (read : f.op = true → (if f.cd then searchData s.cfg.variant s.tlbs f.la
      else searchCode s.cfg.variant s.tlbs f.la) ≠ .double) : ∃ t, tr6Meaning f s = .next t := by
  have access {command : State → Result} (h : ∃ t, command (s.withTlbTest { s.tlbTest with tr6 := f }) = .next t) :
      ∃ t, tr6Access f command s = .next t := h.imp fun t done => tr6Access_next.mpr ⟨h0, test, done⟩
  have stored (hit : s.tlbTest.tr7.h = true) (store : State → State) :
      ∃ t, tr6Access f (fun u => hitBitSet u (.next (store u))) s = .next t :=
    access ⟨_, hitBitSet_next.mpr ⟨hit, rfl⟩⟩
  have found {search : TlbSearch} (single : search ≠ .double) (onMiss : State → Tr6) (onHit : TlbEntry → State → Tr6)
      (u : State) : ∃ t, tlbRead search onMiss onHit u = .next t := by
    cases search with
    | miss | hit => exact ⟨_, rfl⟩
    | double => exact absurd rfl single
  obtain ⟨la, v, d, u, w, ps, cd, op⟩ := f
  cases op with
  | false =>
    cases cd with
    | false =>
      exact stored (write rfl) fun t =>
        (tlbWrite .code la (codeEntry ⟨la, v, d, u, w, ps, false, false⟩ t) t).advance 2
    | true =>
      exact stored (write rfl) fun t =>
        (tlbWrite (dataTlb t.cfg.variant ps) la (dataEntry ⟨la, v, d, u, w, ps, true, false⟩ t) t).advance 2
  | true => cases cd <;> exact access (found (read rfl) _ _ _)

/-- A BTB write completes, on `P` unless another valid way holds the tag (rule R254). -/
theorem btbWrite_completes {f : Tr11} {s : State} (single : s.cfg.variant = .p → validSameTagWays f s = []) :
    ∃ t, btbWrite f s = .next t := by
  unfold btbWrite
  cases hv : s.cfg.variant with
  | p => exact ⟨_, if_pos (single hv)⟩
  | pmmx =>
    dsimp only
    split <;> exact ⟨_, rfl⟩

/-- A TR11 command that fits the variant completes with NBP = 1, unless its control value is reserved or it would repeat
a valid tag on `P` (rules R252 to R258). -/
theorem tr11Meaning_completes {f : Tr11} {s : State} (h0 : s.core.cpl = 0) (test : BtbTestSet s)
    (fits : tr11Operands f s (.next s) = .next s) (control : f.control ∉ [4#3, 6#3, 7#3])
    (single : s.cfg.variant = .p → f.control = 1 → validSameTagWays f s = []) :
    ∃ t, tr11Meaning f s = .next t := by
  have access {command : State → Result} (h : ∃ t, command (s.latchTr11 f) = .next t) :
      ∃ t, tr11Access f command s = .next t := h.imp fun t done => tr11Access_next.mpr ⟨h0, fits, test, done⟩
  have values : ∀ x : BitVec 3, x ∉ [4#3, 6#3, 7#3] → x = 0 ∨ x = 1 ∨ x = 2 ∨ x = 3 ∨ x = 5 := by decide
  obtain ⟨_, set, bank, way, btype⟩ := f
  rcases values _ control with rfl | rfl | rfl | rfl | rfl
  · exact access (command := fun t => .next (t.advance 2)) ⟨_, rfl⟩
  · exact access (command := btbWrite ⟨1, set, bank, way, btype⟩) (btbWrite_completes fun hp => single hp rfl)
  · exact access (command := fun t => .next (btbReadData ⟨2, set, bank, way, btype⟩ t)) ⟨_, rfl⟩
  · exact access (command := fun t => .next ((t.withBtb (flushBtb t.btb)).advance 2)) ⟨_, rfl⟩
  · exact access (command := fun t => .next (btbReadTag ⟨5, set, bank, way, btype⟩ t)) ⟨_, rfl⟩

/-- Settles O29: the write and the command it selects are the one meaning of the value's fields, which completes. -/
theorem commandRegistersRunCommands : Obligations.CommandRegistersRunCommands := by
  intro s h0 hc
  have written {m : Msr} {r : Result} {t : State} (free : NoReservedOne s.cfg m s.core.edxEax) (done : r = .next t) :
      privileged s (noReservedOnes m s.core.edxEax s r) = .next t :=
    privileged_next.mpr ⟨h0, noReservedOnes_next.mpr ⟨noReservedOne_iff.mp free, done⟩⟩
  refine ⟨fun test free => ?_, fun test free write read => ?_, fun test free control single => ?_⟩
  · obtain ⟨command, access⟩ := tr5Meaning_access (unpackTr5 s.cfg s.core.edxEax) s
    exact commandRuns (m := .tr5) h0 (by simp) free
      (written free (access.trans (tr5Access_runs h0 test (tr5Fits_unpack hc _) command)))
  · obtain ⟨t, done⟩ := tr6Meaning_completes h0 test write read
    exact commandRuns (m := .tr6) h0 (by simp) free (written free done)
  · obtain ⟨t, done⟩ := tr11Meaning_completes h0 test (tr11Operands_unpack s _ _) control single
    exact commandRuns (m := .tr11) h0 (by simp) free (written free done)

end Sys2Proof.Machine

/-!
PROOF. The commands of TR5: the testability write of the code cache, the testability reads with good and with bad
parity, the flushes, and the read after the write (O30, O31, O33 to O38).
-/

namespace Sys2Proof.Machine

/-! ### Frames of a command -/

/-- What happens before an instruction of two bytes moves past them, the core untouched. -/
theorem OnlyParts.before {parts : List Part} {s u t : State} (h : OnlyParts parts u t) (kept : KeptBut parts s u)
    (core : u.core = s.core) : OnlyParts parts s t := by
  obtain ⟨regs, others, eip⟩ := h
  refine ⟨fun r hr => core ▸ regs r hr, (kept.mono (List.subset_cons_self _ _)).trans others, ?_⟩
  rwa [EipPast, core] at eip

/-- What happens after it, the core untouched. -/
theorem OnlyParts.andThen {parts : List Part} {s t u : State} (h : OnlyParts parts s t) (kept : KeptBut parts t u)
    (core : u.core = t.core) : OnlyParts parts s u := by
  obtain ⟨regs, others, eip⟩ := h
  refine ⟨fun r hr => ?_, others.trans (kept.mono (List.subset_cons_self _ _)), ?_⟩
  · rw [core]
    exact regs r hr
  · rwa [EipPast, core]

theorem OnlyParts.mono {parts more : List Part} {s t : State} (h : OnlyParts parts s t) (hp : parts ⊆ more) :
    OnlyParts more s t :=
  ⟨h.1, h.2.1.mono (List.cons_subset_cons _ hp), h.2.2⟩

/-- A part that an instruction does not name stays. -/
theorem OnlyParts.kept {parts : List Part} {s t : State} (h : OnlyParts parts s t) {p : Part}
    (hp : p ∉ .core :: parts) : p.kept s t := h.2.1.2 p hp

theorem latchTr5_kept (s : State) (f : Tr5) : KeptBut [.cacheTest] s (s.latchTr5 f) := keptBut_cacheTest s _

/-- Inside a cache test a command leaves the conditions of the next one as they were: privilege, CR0 and the variant. -/
theorem OnlyParts.nextCommand {parts : List Part} {s t : State} {entry : BitVec 2} (h : OnlyParts parts s t)
    (h0 : s.core.cpl = 0) (test : CacheTestSet s) (fits : s.cfg.variant = .p → entry.toNat < 2) :
    t.core.cpl = 0 ∧ CacheTestSet t ∧ (t.cfg.variant = .p → entry.toNat < 2) := by
  obtain ⟨regs, others, -⟩ := h
  have cpl : t.core.cpl = s.core.cpl := regs .cpl (by decide)
  have cr0 : t.core.cr0 = s.core.cr0 := regs .cr0 (by decide)
  rw [CacheTestSet, cpl, cr0, others.1]
  exact ⟨h0, test, fits⟩

/-- Settles O30: the latched fields are all the command leaves. -/
theorem tr5NormalLatches : Obligations.Tr5NormalLatches := by
  intro s buffer set entry cd wb h0 test hentry
  exact ⟨_, tr5Access_runs (f := ⟨0, buffer, set, entry, cd, wb⟩) h0 test hentry fun t => t.advance 2, rfl,
    onlyParts_advance (latchTr5_kept s _) rfl⟩

/-! ### The testability write of the code cache (rule R189) -/

theorem codeLru_putCodeLru (c : Caches) (set j : BitVec 7) (x : BitVec 3) :
    (c.putCodeLru set x).codeLru j = if j = set then x else c.codeLru j := by
  have h := Sparse.get_put 0 c.icacheLru set.toNat j.toNat x
  simp only [BitVec.toNat_inj] at h
  exact h

theorem getLsbD_ofBools (a b c d : Bool) : ∀ i < 4,
    (BitVec.ofBool a ++ BitVec.ofBool b ++ BitVec.ofBool c ++ BitVec.ofBool d).getLsbD i =
      [d, c, b, a].getD i false := by
  revert a b c d
  decide

/-- ID0 to ID3 are bits 3 to 6 of TR1, ID0 the lowest (rule R30). -/
theorem parity_id_eq (p : Parity) :
    p.id =
      BitVec.ofBool (p.bit 6) ++ BitVec.ofBool (p.bit 5) ++ BitVec.ofBool (p.bit 4) ++ BitVec.ofBool (p.bit 3) := by
  apply BitVec.eq_of_getLsbD_eq
  intro i hi
  have positions : i = 0 ∨ i = 1 ∨ i = 2 ∨ i = 3 := by omega
  rw [getLsbD_ofBools _ _ _ _ i hi]
  rcases positions with rfl | rfl | rfl | rfl <;> simp [Parity.id, Parity.bit]

/-- The line stored, in the bits of TR1 by number (rules R30, R189, R283). -/
theorem codeLineToWrite_eq (s : State) (old : CodeLine) :
    codeLineToWrite s old =
      { data := s.cacheTest.fill, tag := s.cacheTest.tr4.tag, valid := s.cacheTest.tr4.valid.getLsbD 0
        endbits := if s.cfg.variant = .p then s.cacheTest.endbuf else old.endbits
        badTag := s.parity.bit 2
        badData := BitVec.ofBool (s.parity.bit 6) ++ BitVec.ofBool (s.parity.bit 5) ++
          BitVec.ofBool (s.parity.bit 4) ++ BitVec.ofBool (s.parity.bit 3) } := by
  rw [codeLineToWrite, parity_id_eq]
  cases s.cfg.variant <;> rfl

/-- Settles O31: one line and the LRU bits of its set are stored, the rest of the caches reads as before. -/
theorem codeCacheWrite : Obligations.CodeCacheWrite := by
  intro s buffer set entry wb h0 test hentry fieldsFit
  have fits := fits_of_fieldsFit fieldsFit
  have run := tr5Access_runs (f := ⟨1, buffer, set, entry, false, wb⟩) h0 test hentry
    (writeCodeLine ⟨1, buffer, set, entry, false, wb⟩)
  have key : tr5Key ⟨1, buffer, set, entry, false, wb⟩ (s.latchTr5 ⟨1, buffer, set, entry, false, wb⟩) =
      set.toNat * 4 + entry.toNat := tr5Key_eq hentry
  refine ⟨_, run, rfl, fun k => ?_, fun j => ?_, rfl, rfl, ?_⟩
  · refine (codeLine_putCode s.caches _ k _).trans ?_
    rw [key, codeLineToWrite_eq]
    by_cases h : k = set.toNat * 4 + entry.toNat
    · rw [if_pos h, if_pos h, h]
      rfl
    · rw [if_neg h, if_neg h]
  · have lru := clipLru_of_lt fits.tr4.2
    rw [← lru]
    exact codeLru_putCodeLru _ _ _ _
  · exact onlyParts_advance ⟨rfl, fun p hp => by cases p <;> simp_all [Part.kept]⟩ rfl

/-! ### The testability reads (rules R191, R197, R206) -/

theorem checkParity_good {bad : Bool} (h : bad = false) (s : State) (k : State → State) :
    checkParity bad s k = k s := by
  rw [checkParity, if_neg (by rw [h]; exact Bool.false_ne_true)]

/-- Bad parity with NS = 1 is reported and the read goes on (rule R287). -/
theorem checkParity_reported {bad : Bool} {s : State} (h : bad = true) (ns : s.parity.ns = true) (k : State → State) :
    checkParity bad s k = k (parityError s) := by
  rw [checkParity, if_pos h, if_pos ns]

/-- Bad parity with NS = 0 ends the read in shutdown (rules R287, R470). -/
theorem checkParity_stopped {bad : Bool} {s : State} (h : bad = true) (ns : s.parity.ns = false) (k : State → State) :
    checkParity bad s k = parityError s := by
  rw [checkParity, if_pos h, if_neg (by rw [ns]; exact Bool.false_ne_true)]

/-- With NS = 1 a report leaves the machine running. -/
theorem parityError_kept_ns {s : State} (ns : s.parity.ns = true) : KeptBut [.parity, .trace] s (parityError s) :=
  ⟨by simp, fun p hp => by cases p <;> simp_all [Part.kept, parityError_run]⟩

/-- No bit of any byte of a line is bad exactly if every portion is good. -/
theorem anyBadByte_eq_false {bits : LineBits} : bits.toList.any (· != 0) = false ↔ ∀ k, portion bits k = 0 := by
  rw [List.any_eq_false]
  constructor
  · intro h k
    simpa [portion] using h (portion bits k) (by simp [portion])
  · intro h x hx
    obtain ⟨i, hi, rfl⟩ := List.getElem_of_mem hx
    have hi : i < 8 := by simpa using hi
    have good := h (BitVec.ofNat 3 i)
    simp only [portion, BitVec.toNat_ofNat, Nat.mod_eq_of_lt hi] at good
    simpa using good

theorem codeReadBad_of_good {l : CodeLine} (tag : l.badTag = false) (data : l.badData = 0) (buffer : BitVec 3)
    (free : Bool) : codeReadBad l buffer free = false := by
  simp [codeReadBad, tag, data]

theorem dataReadBad_of_good {l : DataLine} (tag : l.badTag = false) (bytes : ∀ k, portion l.badByte k = 0)
    (buffer : BitVec 3) (free : Bool) : dataReadBad l buffer free = false := by
  simp only [dataReadBad, tag, bytes buffer, anyBadByte_eq_false.mpr bytes, bne_self_eq_false, Bool.or_self,
    Bool.false_and]

/-- A bad tag, or a bad group of the half that holds the portion, is found whatever the free value (rule R206). -/
theorem codeReadBad_of_bad {l : CodeLine} {buffer : BitVec 3}
    (h : l.badTag = true ∨
      (buffer.toNat < 4 ∧ (l.badData.getLsbD 0 = true ∨ l.badData.getLsbD 1 = true)) ∨
      (4 ≤ buffer.toNat ∧ (l.badData.getLsbD 2 = true ∨ l.badData.getLsbD 3 = true))) (free : Bool) :
    codeReadBad l buffer free = true := by
  have low : ∀ d : BitVec 4, d.getLsbD 0 = true ∨ d.getLsbD 1 = true → (d.extractLsb' 0 2 != 0) = true := by decide
  have high : ∀ d : BitVec 4, d.getLsbD 2 = true ∨ d.getLsbD 3 = true → (d.extractLsb' 2 2 != 0) = true := by decide
  have half : ∀ b : BitVec 3, b.getLsbD 2 = decide (4 ≤ b.toNat) := by decide
  rcases h with tag | ⟨first, group⟩ | ⟨second, group⟩
  · simp [codeReadBad, tag]
  · have first : ¬4 ≤ buffer.toNat := by omega
    simp only [codeReadBad, half, decide_eq_false first, Bool.false_eq_true, if_false, low _ group, Bool.true_or,
      Bool.or_true]
  · simp only [codeReadBad, half, decide_eq_true second, if_true, high _ group, Bool.true_or, Bool.or_true]

/-- A bad tag, or a bad byte of the portion, is found whatever the free value (rule R206). -/
theorem dataReadBad_of_bad {l : DataLine} {buffer : BitVec 3} (h : l.badTag = true ∨ portion l.badByte buffer ≠ 0)
    (free : Bool) : dataReadBad l buffer free = true := by
  rcases h with tag | byte
  · simp [dataReadBad, tag]
  · simp only [dataReadBad, bne_iff_ne.mpr byte, Bool.or_true, Bool.true_or]

/-- The code cache line a command addresses by set and entry. -/
theorem addressed_codeLine {f : Tr5} {s : State} (entry : s.cfg.variant = .p → f.entry.toNat < 2) :
    (s.latchTr5 f).caches.codeLine (tr5Key f (s.latchTr5 f)) = s.caches.codeLine (f.set.toNat * 4 + f.entry.toNat) :=
  congrArg _ (tr5Key_eq (s := s.latchTr5 f) entry)

theorem addressed_dataLine {f : Tr5} {s : State} (entry : s.cfg.variant = .p → f.entry.toNat < 2) :
    (s.latchTr5 f).caches.dataLine (tr5Key f (s.latchTr5 f)) = s.caches.dataLine (f.set.toNat * 4 + f.entry.toNat) :=
  congrArg _ (tr5Key_eq (s := s.latchTr5 f) entry)

/-- TR2 delivers end bits on `P` only (rule R191). -/
theorem deliverCodeLine_tr2 (f : Tr5) (s : State) :
    (deliverCodeLine f s).cacheTest.tr2 =
      if s.cfg.variant = .p then portion (s.caches.codeLine (tr5Key f s)).endbits f.buffer else s.cacheTest.tr2 := by
  unfold deliverCodeLine
  cases s.cfg.variant <;> rfl

/-- The LRU bits delivered are those before the read or those after it (rule R191). -/
theorem deliverCodeLine_lru (f : Tr5) (s : State) :
    (deliverCodeLine f s).cacheTest.tr4.lru = s.caches.codeLru f.set ∨
      (deliverCodeLine f s).cacheTest.tr4.lru = (deliverCodeLine f s).caches.codeLru f.set := by
  have after : (deliverCodeLine f s).caches.codeLru f.set = clipLru s.cfg.variant (s.freeBits 3 3) :=
    (codeLru_putCodeLru _ _ _ _).trans (if_pos rfl)
  rw [after]
  exact (ite_eq_or_eq _ _ _).symm

theorem deliverCodeLine_valid (f : Tr5) (s : State) :
    (deliverCodeLine f s).cacheTest.tr4.valid.getLsbD 0 = (s.caches.codeLine (tr5Key f s)).valid := by
  have low : ∀ a b : Bool, (BitVec.ofBool a ++ BitVec.ofBool b).getLsbD 0 = b := by decide
  exact low _ _

/-- A line of the code cache delivered: only the registers, the LRU bits and the free values move. -/
theorem deliverCodeLine_onlyParts (f : Tr5) (s : State) (n : Nat) :
    OnlyParts [.cacheTest, .caches, .draws] s ((deliverCodeLine f s).useDraws n) := by
  have delivered : OnlyParts [.cacheTest, .caches] s (deliverCodeLine f s) :=
    onlyParts_advance ⟨rfl, fun p hp => by cases p <;> simp_all [Part.kept]⟩ rfl
  exact (delivered.mono (by decide)).andThen ((useDraws_kept _ n).mono (by decide)) rfl

/-- A line of the data cache delivered: the caches stay too. -/
theorem deliverDataLine_onlyParts (f : Tr5) (s : State) (n : Nat) :
    OnlyParts [.cacheTest, .draws] s ((deliverDataLine f s).useDraws n) := by
  have delivered : OnlyParts [.cacheTest] s (deliverDataLine f s) :=
    onlyParts_advance ⟨rfl, fun p hp => by cases p <;> simp_all [Part.kept]⟩ rfl
  exact (delivered.mono (by decide)).andThen ((useDraws_kept _ n).mono (by decide)) rfl

/-- Settles O33: with good parity the line is delivered, and of the caches only LRU bits of its set change. -/
theorem codeCacheRead : Obligations.CodeCacheRead := by
  intro s buffer set entry wb l h0 test hentry hl tag data
  have run := tr5Access_runs (f := ⟨2, buffer, set, entry, false, wb⟩) h0 test hentry
    (readCodeLine ⟨2, buffer, set, entry, false, wb⟩)
  have line := (addressed_codeLine (f := ⟨2, buffer, set, entry, false, wb⟩) hentry).trans hl.symm
  rw [readCodeLine, checkParity_good (by rw [line]; exact codeReadBad_of_good tag data _ _)] at run
  refine ⟨_, run, congrArg (fun x : CodeLine => portion x.data buffer) line, ?_, congrArg CodeLine.tag line,
    (deliverCodeLine_valid _ _).trans (congrArg CodeLine.valid line), deliverCodeLine_lru _ _, rfl, rfl, rfl,
    fun k => rfl, fun j hj => (codeLru_putCodeLru _ _ _ _).trans (if_neg hj), rfl, rfl,
    ((deliverCodeLine_onlyParts _ _ 12).before ((latchTr5_kept s _).mono (by decide)) rfl)⟩
  exact (deliverCodeLine_tr2 _ _).trans (by rw [line]; rfl)

/-- Settles O34: with good parity the line is delivered, and the caches stay. -/
theorem dataCacheRead : Obligations.DataCacheRead := by
  intro s buffer set entry wb l h0 test hentry hl tag bytes
  have run := tr5Access_runs (f := ⟨2, buffer, set, entry, true, wb⟩) h0 test hentry
    (readDataLine ⟨2, buffer, set, entry, true, wb⟩)
  have line := (addressed_dataLine (f := ⟨2, buffer, set, entry, true, wb⟩) hentry).trans hl.symm
  rw [readDataLine, checkParity_good (by rw [line]; exact dataReadBad_of_good tag bytes _ _)] at run
  exact ⟨_, run, congrArg (fun x : DataLine => portion x.data buffer) line, congrArg DataLine.tag line,
    congrArg (fun x : DataLine => mesiBits x.state) line, rfl, rfl, rfl, rfl, rfl,
    (deliverDataLine_onlyParts _ _ 9).before ((latchTr5_kept s _).mono (by decide)) rfl⟩

/-! ### Bad parity in a testability read (rules R206, R287) -/

/-- A read that finds bad parity reports it once, whatever it delivers: with NS = 1 it goes on from the reported error,
with NS = 0 the shutdown leaves the caches and, but for TR5, the registers of the test (rules R287, R470; log 15). -/
theorem badRead_reported {bad : Bool} {f : Tr5} {s : State} {deliver : State → State} {parts : List Part} {n : Nat}
    (found : bad = true) (only : ∀ u, OnlyParts parts u ((deliver u).useDraws n))
    (unnamed : Part.parity ∉ Part.core :: parts ∧ Part.trace ∉ Part.core :: parts) {t : State}
    (ht : t = (checkParity bad (s.latchTr5 f) deliver).useDraws n) :
    t.parity = { s.parity with pes := true } ∧ t.trace = .ierr :: s.trace ∧
    (s.parity.bit 1 = true → t = (deliver (parityError (s.latchTr5 f))).useDraws n ∧
      OnlyParts ([.parity, .cacheTest, .trace] ++ parts) s t) ∧
    (s.parity.bit 1 = false → t.run = .shutdown ∧ t.caches = s.caches ∧
      t.cacheTest = { s.cacheTest with tr5 := f } ∧ KeptBut [.parity, .cacheTest, .run, .trace, .draws] s t) := by
  cases h : s.parity.bit 1 with
  | true =>
    have ns : (s.latchTr5 f).parity.ns = true := h
    have reported : t = (deliver (parityError (s.latchTr5 f))).useDraws n := by
      rw [ht, checkParity_reported found ns]
    have delivered := only (parityError (s.latchTr5 f))
    rw [← reported] at delivered
    have error : KeptBut [.parity, .cacheTest, .trace] s (parityError (s.latchTr5 f)) :=
      ((latchTr5_kept s f).mono (by decide)).trans ((parityError_kept_ns ns).mono (by decide))
    have onlyNamed := (delivered.mono (List.subset_append_right [.parity, .cacheTest, .trace] parts)).before
      (error.mono (List.subset_append_left _ parts)) (parityError_core _)
    exact ⟨(delivered.kept unnamed.1).trans (parityError_parity _),
      (delivered.kept unnamed.2).trans (parityError_trace _), fun _ => ⟨reported, onlyNamed⟩, nofun⟩
  | false =>
    have ns : (s.latchTr5 f).parity.ns = false := h
    rw [checkParity_stopped found ns] at ht
    have stopped : (parityError (s.latchTr5 f)).run = .shutdown := by
      rw [parityError_run, if_neg (by rw [ns]; exact Bool.false_ne_true)]
    subst ht
    exact ⟨parityError_parity _, parityError_trace _, nofun, fun _ => ⟨stopped, parityError_caches _,
      parityError_cacheTest _, ((latchTr5_kept s f).mono (by decide)).trans
        (((parityError_kept _).mono (by decide)).trans ((useDraws_kept _ n).mono (by decide)))⟩⟩

/-- A report leaves the line to be delivered as it is. -/
theorem tr5Key_parityError (f : Tr5) (s : State) : tr5Key f (parityError s) = tr5Key f s := by
  rw [tr5Key, parityError_cfg, ← tr5Key]

theorem deliverCodeLine_tr3_reported (f : Tr5) (s : State) :
    (deliverCodeLine f (parityError s)).cacheTest.tr3 = portion (s.caches.codeLine (tr5Key f s)).data f.buffer := by
  rw [← tr5Key_parityError f s, ← parityError_caches s]
  rfl

theorem deliverDataLine_tr3_reported (f : Tr5) (s : State) :
    (deliverDataLine f (parityError s)).cacheTest.tr3 = portion (s.caches.dataLine (tr5Key f s)).data f.buffer := by
  rw [← tr5Key_parityError f s, ← parityError_caches s]
  rfl

/-- Settles O35: what is bad in the tag or the portion is found whatever the free value says of the rest of the line. -/
theorem badParityIsReported : Obligations.BadParityIsReported := by
  intro s buffer set entry wb key h0 test hentry hkey
  subst hkey
  refine ⟨fun bad => ?_, fun bad => ?_⟩
  · have line := addressed_codeLine (f := ⟨2, buffer, set, entry, false, wb⟩) hentry
    obtain ⟨parity, trace, on, off⟩ := badRead_reported (f := ⟨2, buffer, set, entry, false, wb⟩)
      (by rw [line]; exact codeReadBad_of_bad bad _) (deliverCodeLine_onlyParts _ · 12) (by decide)
      (rfl : readCodeLine _ (s.latchTr5 _) = _)
    refine ⟨_, tr5Access_runs h0 test hentry (readCodeLine _), parity, trace, fun ns => ?_, off⟩
    obtain ⟨reported, only⟩ := on ns
    exact ⟨(congrArg (·.cacheTest.tr3) reported).trans ((deliverCodeLine_tr3_reported _ _).trans
      (congrArg (fun x : CodeLine => portion x.data buffer) line)), only.mono (by decide)⟩
  · have line := addressed_dataLine (f := ⟨2, buffer, set, entry, true, wb⟩) hentry
    obtain ⟨parity, trace, on, off⟩ := badRead_reported (f := ⟨2, buffer, set, entry, true, wb⟩)
      (by rw [line]; exact dataReadBad_of_bad bad _) (deliverDataLine_onlyParts _ · 9) (by decide)
      (rfl : readDataLine _ (s.latchTr5 _) = _)
    refine ⟨_, tr5Access_runs h0 test hentry (readDataLine _), parity, trace, fun ns => ?_, fun ns => ?_⟩
    · obtain ⟨reported, only⟩ := on ns
      exact ⟨(congrArg (·.cacheTest.tr3) reported).trans ((deliverDataLine_tr3_reported _ _).trans
        (congrArg (fun x : DataLine => portion x.data buffer) line)), only.mono (by decide)⟩
    · obtain ⟨shutdown, -, regs, kept⟩ := off ns
      exact ⟨shutdown, regs, kept⟩

/-! ### The flushes (rules R193 to R196) -/

theorem looseFill_kept (s : State) : KeptBut [.cacheTest, .draws] s s.looseFill :=
  ⟨rfl, fun p hp => by cases p <;> simp_all [Part.kept, State.looseFill]⟩

theorem codeLine_flushCode {c : Caches} (h : Sparse.Canonical CodeLine.empty 512 c.icache) (k : Nat) :
    c.flushCode.codeLine k = { c.codeLine k with valid := false } :=
  Sparse.get_mapAll (f := fun l : CodeLine => { l with valid := false }) h rfl k

theorem dataLine_flushData {c : Caches} (h : Sparse.Canonical DataLine.empty 512 c.dcache) (k : Nat) :
    c.flushData.dataLine k = { c.dataLine k with state := .invalid } :=
  Sparse.get_mapAll (f := fun l : DataLine => { l with state := .invalid }) h rfl k

/-- Settles O36: every listed line is changed, and an unlisted one is invalid as it is. -/
theorem wholeCacheFlush : Obligations.WholeCacheFlush := by
  intro s buffer set entry wb h0 test hentry canonical
  obtain ⟨⟨code, -, -, data, -, -⟩, -⟩ := canonical
  have kept (f : Tr5) (c : Caches) :
      KeptBut [.cacheTest, .caches, .draws] s ((s.latchTr5 f).withCaches c).looseFill :=
    ((latchTr5_kept s f).mono (by decide)).trans
      (((withCaches_kept _ c).mono (by decide)).trans ((looseFill_kept _).mono (by decide)))
  exact ⟨⟨_, tr5Access_runs (f := ⟨3, buffer, set, entry, false, wb⟩) h0 test hentry
        fun t => (t.withCaches t.caches.flushCode).looseFill.advance 2,
      codeLine_flushCode code, rfl, rfl, onlyParts_advance (kept _ _) rfl⟩,
    ⟨_, tr5Access_runs (f := ⟨3, buffer, set, entry, true, false⟩) h0 test hentry
        fun t => (t.withCaches t.caches.flushData).looseFill.advance 2,
      dataLine_flushData data, rfl, rfl, onlyParts_advance (kept _ _) rfl⟩⟩

/-- The flush of one line touches, of the registers of the test, only the fill buffer (U9). -/
theorem invalidateDataLine_looseFill_cacheTest (key : Nat) (set : BitVec 7) (s : State) :
    (invalidateDataLine key set s).looseFill.cacheTest =
      { s.cacheTest with fill := (invalidateDataLine key set s).looseFill.cacheTest.fill } := by
  have regs : (invalidateDataLine key set s).cacheTest = s.cacheTest :=
    (invalidateDataLine_kept key set s).2 .cacheTest (by decide)
  rw [← regs]
  rfl

/-- Settles O37: the line is written back if modified, and then made invalid, whatever its parity. -/
theorem dataLineFlush : Obligations.DataLineFlush := by
  intro s buffer set entry l a h0 test hentry hl ha
  have run := tr5Access_runs (f := ⟨3, buffer, set, entry, true, true⟩) h0 test hentry
    fun t => (invalidateDataLine (tr5Key ⟨3, buffer, set, entry, true, true⟩ t) set t).looseFill.advance 2
  have latched := latchTr5_kept s ⟨3, buffer, set, entry, true, true⟩
  have key : tr5Key ⟨3, buffer, set, entry, true, true⟩ (s.latchTr5 ⟨3, buffer, set, entry, true, true⟩) =
      set.toNat * 4 + entry.toNat := tr5Key_eq hentry
  rw [key] at run
  subst ha
  refine ⟨lineAddress_mod _ _ _, fun hc => lineAddress_toNat hc _ _, _, run, fun k => ?_, rfl,
    invalidateDataLine_looseFill_cacheTest _ _ _, fun modified => ?_, fun unmodified => ?_, ?_⟩
  · rw [hl]
    exact dataLine_invalidateDataLine _ set _ k
  · subst hl
    rw [invalidateDataLine_modified (s := s.latchTr5 ⟨3, buffer, set, entry, true, true⟩) set modified]
    exact ⟨fun n hn => readByte_writeLine _ _ _ hn, fun b hb => readByte_writeLine_other _ _ _ hb, rfl, rfl⟩
  · subst hl
    rw [invalidateDataLine_unmodified (s := s.latchTr5 ⟨3, buffer, set, entry, true, true⟩) set unmodified]
    exact onlyParts_advance ((latched.mono (by decide)).trans
      (((withCaches_kept _ _).mono (by decide)).trans ((looseFill_kept _).mono (by decide)))) rfl
  · have core : (invalidateDataLine (set.toNat * 4 + entry.toNat) set (s.latchTr5 _)).core = s.core :=
      (invalidateDataLine_kept _ set (s.latchTr5 ⟨3, buffer, set, entry, true, true⟩)).2 .core (by decide)
    exact onlyParts_advance ((latched.mono (by decide)).trans
      (((invalidateDataLine_kept _ _ _).mono (by decide)).trans ((looseFill_kept _).mono (by decide)))) core

/-! ### The read after the write (rules R189 to R191, R197) -/

theorem tr4_eq {f g : Tr4} (tag : f.tag = g.tag) (lru : f.lru = g.lru) (valid : f.valid = g.valid) : f = g := by
  cases f
  cases g
  simp_all

/-- Settles O38: the read meets the line the write stored, which has good parity. -/
theorem cacheWriteThenRead : Obligations.CacheWriteThenRead := by
  intro s k₀ k set entry wb h0 test hentry fieldsFit
  refine ⟨fun it id => ?_, fun dt dd => ?_⟩
  · obtain ⟨t, write, -, lines, -, -, -, only⟩ := codeCacheWrite s k₀ set entry wb h0 test hentry fieldsFit
    obtain ⟨h0', test', hentry'⟩ := only.nextCommand h0 test hentry
    have line := lines (set.toNat * 4 + entry.toNat)
    rw [if_pos rfl, it, ← parity_id_eq, Parity.id, id] at line
    obtain ⟨u, read, tr3, tr2, tag, valid, -, -, -, -, -, -, -, -, only'⟩ :=
      codeCacheRead t k set entry wb _ h0' test' hentry' rfl (by rw [line]) (by rw [line])
    rw [line] at tr3 tr2 tag valid
    refine ⟨t, u, write, read, tr3, tag, valid, fun hp => ?_, ?_⟩
    · rw [tr2, if_pos (only.2.1.1.symm ▸ hp), if_pos hp]
    · exact (only'.kept (p := .parity) (by decide)).trans (only.kept (p := .parity) (by decide))
  · obtain ⟨t, write, -, ⟨l, data, tag, state, -, badTag, badByte, lines⟩, lrus, -, -, only⟩ :=
      dataCacheWrite s k₀ set entry wb h0 test hentry fieldsFit
    obtain ⟨h0', test', hentry'⟩ := only.nextCommand h0 test hentry
    have line := (lines (set.toNat * 4 + entry.toNat)).trans (if_pos rfl)
    have bytes (j : BitVec 3) : portion l.badByte j = 0 := by
      apply BitVec.eq_of_getLsbD_eq
      intro n hn
      rw [badByte j n hn, dd]
      exact BitVec.getLsbD_zero.symm
    obtain ⟨u, read, tr3, tag', valid, lru, -, -, -, -, only'⟩ :=
      dataCacheRead t k set entry wb l h0' test' hentry' line.symm (badTag.trans dt) bytes
    refine ⟨t, u, write, read, by rw [tr3, data], ?_,
      (only'.kept (p := .parity) (by decide)).trans (only.kept (p := .parity) (by decide))⟩
    exact tr4_eq (tag'.trans tag) (lru.trans ((lrus set).trans (if_pos rfl))) (valid.trans state)

end Sys2Proof.Machine

/-!
PROOF. FLUSH#: the modified lines written back one after the other, with good and with bad parity, and the background
that TR12 and CR0.CD inhibit (O54, O57).
-/

namespace Sys2Proof.Machine

/-! ### The listed entries of an array -/

theorem Sparse.get_of_mem {α : Type} {d : α} {m : Sparse α} (h : m.Pairwise fun a b => a.1 < b.1) {p : Nat × α}
    (hp : p ∈ m) : Sparse.get d m p.1 = p.2 := by
  induction m with
  | nil => cases hp
  | cons q m ih =>
    obtain ⟨first, others⟩ := List.pairwise_cons.mp h
    rw [Sparse.get_cons]
    rcases List.mem_cons.mp hp with rfl | hp
    · exact if_pos rfl
    · rw [if_neg (first p hp).ne]
      exact ih others hp

theorem Sparse.mem_of_get_ne {α : Type} {d : α} {m : Sparse α} {k : Nat} (h : Sparse.get d m k ≠ d) :
    (k, Sparse.get d m k) ∈ m := by
  induction m with
  | nil => exact absurd rfl h
  | cons q m ih =>
    rw [Sparse.get_cons] at h ⊢
    split_ifs at h ⊢ with hq
    · exact List.mem_cons.mpr (.inl (by rw [← hq]))
    · exact List.mem_cons_of_mem _ (ih h)

/-- A modified line is listed: an unlisted one is invalid. -/
theorem mem_dcache_of_modified {c : Caches} {k : Nat} (h : (c.dataLine k).state = .modified) :
    (k, c.dataLine k) ∈ c.dcache := by
  refine Sparse.mem_of_get_ne fun e => ?_
  rw [Caches.dataLine, e] at h
  cases h

/-! ### The writeback of the listed lines (rules R196, R473) -/

/-- What the writeback of a line finds is bad exactly if its parity is not good (rule R66). -/
theorem writebackBad_eq_false_iff {l : DataLine} : writebackBad l = false ↔ l.GoodParity := by
  rw [writebackBad, Bool.or_eq_false_iff, anyBadByte_eq_false]

theorem writebackBad_of_bad {l : DataLine} (h : ¬l.GoodParity) : writebackBad l = true :=
  Bool.eq_true_of_not_eq_false fun good => h (writebackBad_eq_false_iff.mp good)

/-- The line address of a listed data cache line (rule R196). -/
def listedAddress (c : Config) (p : Nat × DataLine) : Word := lineAddress c p.2.tag (BitVec.ofNat 7 (p.1 / 4))

/-- Different line addresses are those of different 32 bytes. -/
theorem listedAddress_apart {c : Config} {p q : Nat × DataLine} (differ : listedAddress c p ≠ listedAddress c q)
    {n : Nat} (hn : n < 32) : ((listedAddress c p).toNat + n) / 2 ^ 5 ≠ (listedAddress c q).toNat / 2 ^ 5 := by
  have alignedP : (listedAddress c p).toNat % 32 = 0 := lineAddress_mod _ _ _
  have alignedQ : (listedAddress c q).toNat % 32 = 0 := lineAddress_mod _ _ _
  have differ := BitVec.toNat_inj.ne.mpr differ
  omega

/-- A listed line written back if it is modified, its parity unchecked. -/
def writebackListed (s : State) (p : Nat × DataLine) : State :=
  if p.2.state = .modified then writeback p.2 (BitVec.ofNat 7 (p.1 / 4)) s else s

theorem writebackListed_kept (s : State) (p : Nat × DataLine) :
    KeptBut [.memory, .trace, .occurred] s (writebackListed s p) := by
  unfold writebackListed
  split
  · exact ⟨rfl, fun p hp => by cases p <;> simp_all [Part.kept]⟩
  · exact KeptBut.refl _ s

theorem foldl_writebackListed_kept (lines : Sparse DataLine) (s : State) :
    KeptBut [.memory, .trace, .occurred] s (lines.foldl writebackListed s) := by
  induction lines generalizing s with
  | nil => exact KeptBut.refl _ s
  | cons p lines ih => exact (writebackListed_kept s p).trans (ih _)

/-- An address in no line written back keeps its byte. -/
theorem readByte_foldl_writebackListed_other {lines : Sparse DataLine} {s : State} {a : Nat}
    (h : ∀ p ∈ lines, p.2.state = .modified → a / 2 ^ 5 ≠ (listedAddress s.cfg p).toNat / 2 ^ 5) :
    readByte (lines.foldl writebackListed s).mem a = readByte s.mem a := by
  induction lines generalizing s with
  | nil => rfl
  | cons p lines ih =>
    obtain ⟨first, others⟩ := List.forall_mem_cons.mp h
    refine (ih (by rw [(writebackListed_kept s p).1]; exact others)).trans ?_
    unfold writebackListed
    split_ifs with modified
    · have aligned := lineAddress_mod s.cfg p.2.tag (BitVec.ofNat 7 (p.1 / 4))
      have outside := first modified
      rw [listedAddress] at outside
      exact readByte_writeLine_other _ _ _ (by omega)
    · rfl

/-- A line written back is in memory afterwards, if no other one written back has its address. -/
theorem readByte_foldl_writebackListed {lines : Sparse DataLine} {s : State} {p : Nat × DataLine} {n : Nat}
    (apart : lines.Pairwise fun p q => p.2.state = .modified → q.2.state = .modified →
      listedAddress s.cfg p ≠ listedAddress s.cfg q)
    (hp : p ∈ lines) (modified : p.2.state = .modified) (hn : n < 32) :
    readByte (lines.foldl writebackListed s).mem ((listedAddress s.cfg p).toNat + n) = lineByte p.2.data n := by
  induction lines generalizing s with
  | nil => cases hp
  | cons q lines ih =>
    obtain ⟨first, others⟩ := List.pairwise_cons.mp apart
    have cfg := (writebackListed_kept s q).1
    rcases List.mem_cons.mp hp with rfl | hp
    · have written : readByte (writebackListed s p).mem ((listedAddress s.cfg p).toNat + n) = lineByte p.2.data n := by
        unfold writebackListed
        rw [if_pos modified]
        exact readByte_writeLine _ _ _ hn
      refine (readByte_foldl_writebackListed_other (lines := lines) fun q hq mod => ?_).trans written
      rw [cfg]
      exact listedAddress_apart (first q hq modified mod) hn
    · rw [← cfg]
      exact ih (by rw [cfg]; exact others) hp

/-! ### FLUSH# with good parity -/

theorem writebackAll_unmodified (rest : State → State) {p : Nat × DataLine} (h : p.2.state ≠ .modified)
    (lines : Sparse DataLine) (s : State) : writebackAll rest (p :: lines) s = writebackAll rest lines s := if_neg h

theorem writebackAll_modified (rest : State → State) {p : Nat × DataLine} (h : p.2.state = .modified)
    (lines : Sparse DataLine) (s : State) :
    writebackAll rest (p :: lines) s =
      checkParity (writebackBad p.2) s fun t => writebackAll rest lines (writebackListed t p) := by
  simp only [writebackAll, writebackListed, if_pos h]

theorem writebackAll_good {lines : Sparse DataLine} {s : State} (rest : State → State)
    (good : ∀ p ∈ lines, p.2.state = .modified → p.2.GoodParity) :
    writebackAll rest lines s = rest (lines.foldl writebackListed s) := by
  induction lines generalizing s with
  | nil => rfl
  | cons p lines ih =>
    obtain ⟨first, others⟩ := List.forall_mem_cons.mp good
    by_cases h : p.2.state = .modified
    · rw [writebackAll_modified rest h, checkParity_good (writebackBad_eq_false_iff.mpr (first h))]
      exact ih others
    · rw [writebackAll_unmodified rest h, ih others, List.foldl_cons, writebackListed, if_neg h]

/-- After the writebacks both caches are invalid and the registers of the cache test lost (rule R473). -/
theorem afterWriteback_kept (s : State) : KeptBut [.cacheTest, .caches, .occurred] s (afterWriteback s) :=
  ⟨rfl, fun p hp => by cases p <;> simp_all [Part.kept, afterWriteback]⟩

theorem afterWriteback_invalid (s : State) (k : Nat) :
    ((afterWriteback s).caches.dataLine k).state = .invalid ∧ ((afterWriteback s).caches.codeLine k).valid = false :=
  ⟨flushData_invalid _ k, flushCode_invalid _ k⟩

/-! ### FLUSH# with bad parity (rules R284, R287) -/

/-- With NS = 0 the first bad line shuts the machine down, some lines being written back before it (log 15). -/
theorem writebackAll_stopped {lines : Sparse DataLine} {s : State} (rest : State → State) (ns : s.parity.ns = false)
    (bad : ∃ p ∈ lines, p.2.state = .modified ∧ ¬p.2.GoodParity) :
    ∃ u, writebackAll rest lines s = parityError u ∧ KeptBut [.memory, .trace, .occurred] s u := by
  induction lines generalizing s with
  | nil => simp at bad
  | cons p lines ih =>
    rw [List.exists_mem_cons_iff] at bad
    by_cases h : p.2.state = .modified
    · rw [writebackAll_modified rest h]
      by_cases good : p.2.GoodParity
      · have kept := writebackListed_kept s p
        have parity : (writebackListed s p).parity = s.parity := kept.2 .parity (by decide)
        obtain ⟨u, eq, kept'⟩ := ih (s := writebackListed s p) (by rw [parity, ns])
          (bad.resolve_left fun first => first.2 good)
        exact ⟨u, (checkParity_good (writebackBad_eq_false_iff.mpr good) s _).trans eq, kept.trans kept'⟩
      · exact ⟨s, checkParity_stopped (writebackBad_of_bad good) ns _, KeptBut.refl _ s⟩
    · rw [writebackAll_unmodified rest h]
      exact ih ns (bad.resolve_left fun first => h first.1)

/-- A parity error stands reported: PES is set and IERR# was asserted (rule R287). -/
def Reported (s : State) : Prop := s.parity.pes = true ∧ Output.ierr ∈ s.trace

theorem reported_parityError (s : State) : Reported (parityError s) := by simp [Reported]

theorem reported_writebackListed {s : State} (h : Reported s) (p : Nat × DataLine) :
    Reported (writebackListed s p) := by
  obtain ⟨pes, ierr⟩ := h
  unfold writebackListed
  split
  · exact ⟨pes, List.mem_cons_of_mem _ ierr⟩
  · exact ⟨pes, ierr⟩

/-- With NS = 1 every modified line is written back, and a bad one is reported. -/
theorem writebackAll_reported {lines : Sparse DataLine} {s : State} (rest : State → State) (ns : s.parity.ns = true) :
    ∃ u, writebackAll rest lines s = rest u ∧ u.run = s.run ∧ u.parity = { s.parity with pes := u.parity.pes } ∧
      (Reported s ∨ (∃ p ∈ lines, p.2.state = .modified ∧ ¬p.2.GoodParity) → Reported u) := by
  induction lines generalizing s with
  | nil => exact ⟨s, rfl, rfl, rfl, fun h => by simpa using h⟩
  | cons p lines ih =>
    rw [List.exists_mem_cons_iff]
    by_cases h : p.2.state = .modified
    · rw [writebackAll_modified rest h]
      by_cases good : p.2.GoodParity
      · have kept := writebackListed_kept s p
        have same : (writebackListed s p).parity = s.parity := kept.2 .parity (by decide)
        obtain ⟨u, eq, run, parity, reported⟩ := ih (s := writebackListed s p) (by rw [same, ns])
        rw [same] at parity
        refine ⟨u, (checkParity_good (writebackBad_eq_false_iff.mpr good) s _).trans eq,
          run.trans (kept.2 .run (by decide)), parity, fun r => reported ?_⟩
        exact r.imp (reported_writebackListed · p) fun bad => bad.resolve_left fun first => first.2 good
      · have kept := writebackListed_kept (parityError s) p
        have error : (writebackListed (parityError s) p).parity = { s.parity with pes := true } :=
          (kept.2 .parity (by decide)).trans (parityError_parity s)
        obtain ⟨u, eq, run, parity, reported⟩ := ih (s := writebackListed (parityError s) p) (by rw [error]; exact ns)
        rw [error] at parity
        exact ⟨u, (checkParity_reported (writebackBad_of_bad good) ns _).trans eq,
          run.trans ((kept.2 .run (by decide)).trans ((parityError_kept_ns ns).2 .run (by decide))), parity,
          fun _ => reported (.inl (reported_writebackListed (reported_parityError s) p))⟩
    · obtain ⟨u, eq, run, parity, reported⟩ := ih ns
      refine ⟨u, (writebackAll_unmodified rest h lines s).trans eq, run, parity, fun r => reported ?_⟩
      exact r.imp_right fun bad => bad.resolve_left fun first => h first.1

/-- Settles O54: the listed modified lines are those of the cache, each written back at its address. -/
theorem flushPinWritesBack : Obligations.FlushPinWritesBack := by
  intro s address canonical haddress
  obtain ⟨⟨-, -, -, ⟨sorted, -⟩, -, -⟩, -⟩ := canonical
  have listed {p : Nat × DataLine} (hp : p ∈ s.caches.dcache) : s.caches.dataLine p.1 = p.2 :=
    Sparse.get_of_mem sorted hp
  have addressOf {p : Nat × DataLine} (hp : p ∈ s.caches.dcache) : address p.1 = listedAddress s.cfg p := by
    rw [haddress, listed hp, listedAddress]
  have outcome {t : State} (h : writebackAll afterWriteback s.caches.dcache s = t) :
      agentMove .flush s = .next (t.useDraws 20) := by
    rw [← h]
    rfl
  refine ⟨fun good apart => ?_, fun k modified bad => ?_⟩
  · have run := outcome (writebackAll_good afterWriteback fun p hp mod =>
      listed hp ▸ good p.1 (by rw [listed hp, mod]))
    have apart : s.caches.dcache.Pairwise fun p q => p.2.state = .modified → q.2.state = .modified →
        listedAddress s.cfg p ≠ listedAddress s.cfg q :=
      sorted.imp_of_mem fun hp hq lt modP modQ same =>
        lt.ne (apart _ _ (by rw [listed hp, modP]) (by rw [listed hq, modQ])
          (by rw [addressOf hp, addressOf hq, same]))
    refine ⟨_, run, afterWriteback_invalid _, fun k n modified hn => ?_, fun a outside => ?_, ?_⟩
    · have mem := mem_dcache_of_modified modified
      rw [addressOf mem]
      exact readByte_foldl_writebackListed apart mem modified hn
    · refine readByte_foldl_writebackListed_other fun p hp mod => ?_
      rw [← addressOf hp]
      exact outside p.1 (by rw [listed hp, mod])
    · exact ((foldl_writebackListed_kept _ s).mono (by decide)).trans
        (((afterWriteback_kept _).mono (by decide)).trans ((useDraws_kept _ 20).mono (by decide)))
  · have bad : ∃ p ∈ s.caches.dcache, p.2.state = .modified ∧ ¬p.2.GoodParity :=
      ⟨_, mem_dcache_of_modified modified, modified, bad⟩
    cases ns : s.parity.bit 1 with
    | false =>
      obtain ⟨u, stopped, kept⟩ := writebackAll_stopped afterWriteback ns bad
      have parity : u.parity = s.parity := kept.2 .parity (by decide)
      refine ⟨_, outcome stopped, ?_, ?_, fun _ => ⟨?_, ?_⟩, nofun⟩
      · exact (parityError_parity u).trans (by rw [parity])
      · rw [useDraws_trace, parityError_trace]
        exact List.mem_cons_self
      · have off : u.parity.ns = false := by rw [parity]; exact ns
        rw [useDraws_run, parityError_run, if_neg (by rw [off]; exact Bool.false_ne_true)]
      · exact (parityError_caches u).trans (kept.2 .caches (by decide))
    | true =>
      obtain ⟨u, done, run, parity, reported⟩ := writebackAll_reported (lines := s.caches.dcache) afterWriteback ns
      obtain ⟨pes, ierr⟩ := reported (.inr bad)
      rw [pes] at parity
      exact ⟨_, outcome done, parity, ierr, nofun, fun _ =>
        ⟨run, afterWriteback_invalid u⟩⟩

/-! ### Fills and allocations inhibited (rules R182, R302, R305, R308, R309) -/

/-- Settles O57: each move is guarded by its inhibit bits. -/
theorem fillsAndAllocationsInhibited : Obligations.FillsAndAllocationsInhibited := by
  intro s
  refine ⟨fun h set way tag data => ?_, fun h set way tag data state wb => ?_, fun h set bank way e => ?_⟩
  · have inhibited : codeFillAllowed s = false := by
      rcases h with h | h | ⟨pmmx, h⟩ <;>
        simp [codeFillAllowed, State.codeFillInhibited, State.ci, State.cci, Core.cd, *]
    exact congrArg _ (if_neg (by rw [inhibited]; exact Bool.false_ne_true))
  · have inhibited : dataFillAllowed s = false := by
      rcases h with h | h | ⟨pmmx, h⟩ <;>
        simp [dataFillAllowed, State.dataFillInhibited, State.ci, State.dci, Core.cd, *]
    exact congrArg _ (if_neg (by rw [inhibited]; exact Bool.false_ne_true))
  · exact congrArg _ (if_neg fun allowed => by rw [State.nbp, h] at allowed; cases allowed.1)

end Sys2Proof.Machine

/-!
PROOF. The commands of TR6: the TLB write, what it and a search refuse, the TLB reads with good and with bad parity, and
the read after the write (O40 to O45).
-/

namespace Sys2Proof.Machine

/-! ### A command of TR6 (rules R222, R228) -/

/-- The state a TR6 command runs on: the fields stored in TR6. -/
abbrev State.latchTr6 (s : State) (f : Tr6) : State := s.withTlbTest { s.tlbTest with tr6 := f }

theorem tr6Access_runs {f : Tr6} {s : State} (h0 : s.core.cpl = 0) (test : TlbTestSet s) (command : State → Result) :
    tr6Access f command s = command (s.latchTr6 f) := by
  rw [tr6Access, privileged_zero h0, inTestProcedure, if_pos (tlbTestPre_of_set test)]

theorem latchTr6_kept (s : State) (f : Tr6) : KeptBut [.tlbTest] s (s.latchTr6 f) :=
  ⟨rfl, fun p hp => by cases p <;> simp_all [Part.kept]⟩

theorem withTlbs_kept (s : State) (x : Tlbs) : KeptBut [.tlbs] s (s.withTlbs x) :=
  ⟨rfl, fun p hp => by cases p <;> simp_all [Part.kept]⟩

section Commands
variable {s : State} (h0 : s.core.cpl = 0) (test : TlbTestSet s) (la : BitVec 20) (v d u w ps : Bool)
include h0 test

theorem exec_tr6WriteCode :
    exec (.tr6WriteCode la v d u w ps) s =
      hitBitSet (s.latchTr6 ⟨la, v, d, u, w, ps, false, false⟩)
        (.next ((tlbWrite .code la
          (codeEntry ⟨la, v, d, u, w, ps, false, false⟩ (s.latchTr6 ⟨la, v, d, u, w, ps, false, false⟩))
          (s.latchTr6 ⟨la, v, d, u, w, ps, false, false⟩)).advance 2)) := by
  change execTr6WriteCode la v d u w ps s = _
  rw [execTr6WriteCode, tr6Access_runs h0 test]

theorem exec_tr6WriteData :
    exec (.tr6WriteData la v d u w ps) s =
      hitBitSet (s.latchTr6 ⟨la, v, d, u, w, ps, true, false⟩)
        (.next ((tlbWrite (dataTlb s.cfg.variant ps) la
          (dataEntry ⟨la, v, d, u, w, ps, true, false⟩ (s.latchTr6 ⟨la, v, d, u, w, ps, true, false⟩))
          (s.latchTr6 ⟨la, v, d, u, w, ps, true, false⟩)).advance 2)) := by
  change execTr6WriteData la v d u w ps s = _
  rw [execTr6WriteData, tr6Access_runs h0 test, withTlbTest_cfg]

theorem exec_tr6ReadCode {found : TlbSearch} (search : searchCode s.cfg.variant s.tlbs la = found) :
    exec (.tr6ReadCode la v d u w ps) s =
      tlbRead found (tr6AfterMiss ⟨0, v, d, u, w, ps, false, true⟩) (tr6AfterCodeHit ⟨0, v, d, u, w, ps, false, true⟩)
        (s.latchTr6 ⟨la, v, d, u, w, ps, false, true⟩) := by
  subst search
  exact tr6Access_runs h0 test _

theorem exec_tr6ReadData {found : TlbSearch} (search : searchData s.cfg.variant s.tlbs la = found) :
    exec (.tr6ReadData la v d u w ps) s =
      tlbRead found (tr6AfterMiss ⟨la, v, d, u, w, ps, true, true⟩)
        (fun e _ => tr6AfterDataHit ⟨la, v, d, u, w, ps, true, true⟩ e)
        (s.latchTr6 ⟨la, v, d, u, w, ps, true, true⟩) := by
  subst search
  exact tr6Access_runs h0 test _

end Commands

/-! ### The TLB write (rules R224, R225, R234) -/

theorem entry_putEntry (t : Tlbs) (n m : TlbName) (k j : Nat) (e : TlbEntry) :
    (t.putEntry n k e).entry m j = if m = n ∧ j = k then e else t.entry m j := by
  by_cases h : m = n ∧ j = k
  · obtain ⟨rfl, rfl⟩ := h
    simp
  · rw [if_neg h, entry_putEntry_other t e (not_and_or.mp h)]

theorem lru_putLru_same (t : Tlbs) (n : TlbName) (set : Nat) (x : BitVec 3) :
    Sparse.get 0 ((t.putLru n set x).lru n) set = x := by
  cases n <;> exact Sparse.get_put_same _ _ _ _

theorem tlbWrite_entry (n m : TlbName) (la : BitVec 20) (e : TlbEntry) (s : State) (k : Nat) :
    (tlbWrite n la e s).tlbs.entry m k =
      if m = n ∧ k = tlbKey s.cfg.variant n la s.tlbTest.tr7.entry then e else s.tlbs.entry m k := by
  rw [← entry_putEntry]
  unfold tlbWrite
  cases s.cfg.variant
  · exact entry_putLru _ _ _ _ _ _
  · rfl

theorem tlbWrite_lru {s : State} (hp : s.cfg.variant = .p) (n : TlbName) (la : BitVec 20) (e : TlbEntry) :
    Sparse.get 0 ((tlbWrite n la e s).tlbs.lru n) (tlbSet n la) = s.tlbTest.tr7.lru := by
  unfold tlbWrite
  rw [hp]
  exact lru_putLru_same _ _ _ _

theorem tlbWrite_kept (n : TlbName) (la : BitVec 20) (e : TlbEntry) (s : State) :
    KeptBut [.tlbs, .tlbSequence] s (tlbWrite n la e s) :=
  ⟨rfl, fun p hp => by cases p <;> simp_all [Part.kept, tlbWrite]⟩

/-- A TLB write after TR6 is stored: besides the TLBs only TR6 and the record of the sequence move. -/
theorem tlbWrite_onlyParts (s : State) (f : Tr6) (n : TlbName) (la : BitVec 20) (e : TlbEntry) :
    OnlyParts [.tlbTest, .tlbs, .tlbSequence] s ((tlbWrite n la e (s.latchTr6 f)).advance 2) :=
  onlyParts_advance (((latchTr6_kept s f).mono (by decide)).trans ((tlbWrite_kept n la e _).mono (by decide))) rfl

theorem hitBitSet_clear {s : State} (h : s.tlbTest.tr7.h = false) (k : Result) :
    hitBitSet s k = .refused .tlbHitBitClear := by
  rw [hitBitSet, if_neg (by rw [h]; exact Bool.false_ne_true)]

/-- Settles O40: the entry of TR6 and TR7 is stored at one key, in either TLB. (The obligation's own name is the model's
for the operation.) -/
theorem tlbWriteStores : Obligations.TlbWrite := by
  intro s la v d u w ps h0 test hit
  refine ⟨⟨_, (exec_tr6WriteCode h0 test la v d u w ps).trans (if_pos hit), fun n k => tlbWrite_entry _ _ _ _ _ _,
      fun hp => tlbWrite_lru (s := s.latchTr6 _) hp .code la _, rfl, rfl, test, tlbWrite_onlyParts s _ _ _ _⟩,
    ⟨_, (exec_tr6WriteData h0 test la v d u w ps).trans (if_pos hit), fun n k => tlbWrite_entry _ _ _ _ _ _,
      fun hp => ?_, rfl, rfl, test, tlbWrite_onlyParts s _ _ _ _⟩⟩
  rw [← hp]
  exact tlbWrite_lru (s := s.latchTr6 _) hp _ la _

/-! ### What a search finds (rules R226, R227, R235) -/

theorem tlbCandidates_nodup (v : Variant) (n : TlbName) (la : BitVec 20) : (tlbCandidates v n la).Nodup := by
  have ways : ((List.range 4).map (tlbSet .code la * 4 + ·)).Nodup :=
    List.nodup_range.map fun i j h => by simpa using h
  cases v <;> cases n
  case p.code => exact ways
  all_goals exact List.nodup_range

/-- Every key a search looks at fits the six bits of the entry pointer of TR7 (rule R40). -/
theorem tlbCandidates_lt {v : Variant} {n : TlbName} {la : BitVec 20} {k : Nat} (h : k ∈ tlbCandidates v n la) :
    k < 64 := by
  cases v <;> cases n
  case p.code =>
    obtain ⟨w, hw, rfl⟩ := List.mem_map.mp h
    have way := List.mem_range.mp hw
    have set : tlbSet .code la < 8 := Nat.mod_lt _ (by decide)
    omega
  all_goals exact (List.mem_range.mp h).trans_le (by decide)

theorem mem_tlbMatches {v : Variant} {t : Tlbs} {n : TlbName} {la : BitVec 20} {k : Nat} :
    k ∈ tlbMatches v t n la ↔ k ∈ tlbCandidates v n la ∧ tlbMatch n (t.entry n k) la = true := List.mem_filter

theorem tlbMatches_eq_nil {v : Variant} {t : Tlbs} {n : TlbName} {la : BitVec 20}
    (h : ∀ k ∈ tlbCandidates v n la, tlbMatch n (t.entry n k) la = false) : tlbMatches v t n la = [] :=
  List.filter_eq_nil_iff.mpr fun k hk => by rw [h k hk]; exact Bool.false_ne_true

theorem tlbMatches_eq_singleton {v : Variant} {t : Tlbs} {n : TlbName} {la : BitVec 20} {k : Nat}
    (hk : k ∈ tlbCandidates v n la) (hit : tlbMatch n (t.entry n k) la = true)
    (others : ∀ j ∈ tlbCandidates v n la, j ≠ k → tlbMatch n (t.entry n j) la = false) :
    tlbMatches v t n la = [k] := by
  have only : tlbMatches v t n la = (tlbCandidates v n la).filter (· == k) :=
    List.filter_congr fun j hj => by
      by_cases h : j = k
      · rw [h, hit, beq_self_eq_true]
      · rw [others j hj h, beq_eq_false_iff_ne.mpr h]
  rw [only, List.filter_beq, List.count_eq_one_of_mem (tlbCandidates_nodup v n la) hk, List.replicate_one]

/-- The 4-Mbyte page number is the upper half of the page number (rule R235). -/
theorem extract_page4M_eq_iff (x y : BitVec 20) :
    x.extractLsb' 10 10 = y.extractLsb' 10 10 ↔ x.toNat / 2 ^ 10 = y.toNat / 2 ^ 10 := by
  have hx := x.isLt
  have hy := y.isLt
  rw [← BitVec.toNat_inj, BitVec.extractLsb'_toNat, BitVec.extractLsb'_toNat, Nat.shiftRight_eq_div_pow,
    Nat.shiftRight_eq_div_pow]
  omega

theorem tlbMatch_code {e : TlbEntry} {la : BitVec 20} : tlbMatch .code e la = true ↔ e.v = true ∧ e.lpn = la := by
  simp [tlbMatch]

theorem tlbMatch_data {n : TlbName} (hn : n ≠ .code) {e : TlbEntry} {la : BitVec 20} :
    tlbMatch n e la = true ↔
      e.v = true ∧ if e.ps then e.lpn.toNat / 2 ^ 10 = la.toNat / 2 ^ 10 else e.lpn = la := by
  rw [← extract_page4M_eq_iff, tlbMatch]
  cases e.ps <;> simp [hn]

/-- Two keys in a list make it a double match. -/
theorem searchOf_double {n : TlbName} {keys : List Nat} {i j : Nat} (ne : i ≠ j) (hi : i ∈ keys) (hj : j ∈ keys) :
    searchOf n keys = .double := by
  match keys with
  | [] => cases hi
  | [k] => exact absurd ((List.mem_singleton.mp hi).trans (List.mem_singleton.mp hj).symm) ne
  | _ :: _ :: _ => rfl

/-- A list without repetition whose members are all equal makes no double match. -/
theorem searchOf_ne_double {n : TlbName} {keys : List Nat} (nodup : keys.Nodup)
    (single : ∀ i ∈ keys, ∀ j ∈ keys, i = j) : searchOf n keys ≠ .double := by
  match keys with
  | [] | [_] => nofun
  | x :: y :: r =>
    have same : x = y := single x (by simp) y (by simp)
    exact absurd (by simp [same]) (List.nodup_cons.mp nodup).1

theorem searchData_pmmx (t : Tlbs) (la : BitVec 20) :
    searchData .pmmx t la = searchOf .data4K (tlbMatches .pmmx t .data4K la) := rfl

/-- On `P` without a match in the 4-Mbyte TLB the 4-Kbyte TLB answers (rule R227). -/
theorem searchData_no4M {t : Tlbs} {la : BitVec 20} (none4M : tlbMatches .p t .data4M la = []) :
    searchData .p t la = searchOf .data4K (tlbMatches .p t .data4K la) := by
  rw [searchData, none4M]
  cases searchOf .data4K (tlbMatches .p t .data4K la) <;> rfl

/-- On `P` a match in the 4-Mbyte TLB is the one reported (rule R227). -/
theorem searchData_4M {t : Tlbs} {la : BitVec 20} {k : Nat} (one4M : tlbMatches .p t .data4M la = [k])
    (single : searchOf .data4K (tlbMatches .p t .data4K la) ≠ .double) : searchData .p t la = .hit .data4M k := by
  rw [searchData, one4M]
  cases h : searchOf .data4K (tlbMatches .p t .data4K la) with
  | double => exact absurd h single
  | miss | hit => rfl

/-- Two matches in one data TLB of the variant are a double match of the search (rule R227). -/
theorem searchData_double {v : Variant} {t : Tlbs} {n : TlbName} {la : BitVec 20}
    (hn : n = .data4K ∨ (n = .data4M ∧ v = .p)) (double : searchOf n (tlbMatches v t n la) = .double) :
    searchData v t la = .double := by
  rcases hn with rfl | ⟨rfl, rfl⟩
  · cases v with
    | p => rw [searchData, double]
    | pmmx => exact double
  · rw [searchData, double]
    cases searchOf .data4K (tlbMatches .p t .data4K la) <;> rfl

/-- One match in a data TLB of the variant is the hit of the search, if on `P` the 4-Mbyte TLB has no other and the
4-Kbyte TLB no two (rule R227). -/
theorem searchData_hit {v : Variant} {t : Tlbs} {n : TlbName} {la : BitVec 20} {k : Nat}
    (hn : n = .data4K ∨ (n = .data4M ∧ v = .p)) (one : tlbMatches v t n la = [k])
    (no4M : v = .p → n = .data4K → tlbMatches .p t .data4M la = [])
    (single : n = .data4M → searchOf .data4K (tlbMatches .p t .data4K la) ≠ .double) :
    searchData v t la = .hit n k := by
  rcases hn with rfl | ⟨rfl, rfl⟩
  · cases v with
    | p =>
      rw [searchData_no4M (no4M rfl rfl), one]
      rfl
    | pmmx =>
      rw [searchData_pmmx, one]
      rfl
  · exact searchData_4M one (single rfl)

theorem searchData_miss {v : Variant} {t : Tlbs} {la : BitVec 20}
    (none : ∀ n, (n = .data4K ∨ (n = .data4M ∧ v = .p)) → tlbMatches v t n la = []) : searchData v t la = .miss := by
  cases v with
  | p =>
    rw [searchData_no4M (none .data4M (.inr ⟨rfl, rfl⟩)), none .data4K (.inl rfl)]
    rfl
  | pmmx =>
    rw [searchData_pmmx, none .data4K (.inl rfl)]
    rfl

/-- The key a search reports fits the six bits of the entry pointer of TR7 (rule R40). -/
theorem searchCode_key_lt {v : Variant} {t : Tlbs} {la : BitVec 20} {n : TlbName} {k : Nat}
    (h : searchCode v t la = .hit n k) : k < 64 := by
  obtain ⟨rfl, hk⟩ := searchOf_hit h
  exact tlbCandidates_lt (mem_tlbMatches.mp hk).1

theorem searchData_key_lt {v : Variant} {t : Tlbs} {la : BitVec 20} {n : TlbName} {k : Nat}
    (h : searchData v t la = .hit n k) : k < 64 := by
  cases v with
  | p =>
    have set := searchData_set h
    have sets : tlbSets n ≤ 16 := by cases n <;> decide
    omega
  | pmmx =>
    obtain ⟨rfl, hk⟩ := searchOf_hit h
    exact tlbCandidates_lt (mem_tlbMatches.mp hk).1

/-! ### What a TLB command refuses (rules R224 to R227) -/

/-- A lookup by normal operation is refused as a test read is (rule R224 d). -/
theorem lookupTlb_double {n : TlbName} {la : BitVec 20} {s : State} (hn : tlbOf s.cfg.variant n = n)
    (double : searchOf n (tlbMatches s.cfg.variant s.tlbs n la) = .double) :
    lookupTlb n la s = .refused .tlbDoubleMatch := by
  unfold lookupTlb
  dsimp only
  rw [hn]
  match h : tlbMatches s.cfg.variant s.tlbs n la with
  | [] | [_] => rw [h] at double; cases double
  | _ :: _ :: _ => rfl

/-- Settles O41: the guard H of a write, and the search that finds two entries. -/
theorem tlbRefusals : Obligations.TlbRefusals := by
  intro s la v d u w ps
  refine ⟨fun h0 test clear => ?_, fun n i j ne hi hj mi mj => ?_⟩
  · exact ⟨(exec_tr6WriteCode h0 test la v d u w ps).trans (hitBitSet_clear (by exact clear) _),
      (exec_tr6WriteData h0 test la v d u w ps).trans (hitBitSet_clear (by exact clear) _)⟩
  · have double : searchOf n (tlbMatches s.cfg.variant s.tlbs n la) = .double :=
      searchOf_double ne (mem_tlbMatches.mpr ⟨hi, mi⟩) (mem_tlbMatches.mpr ⟨hj, mj⟩)
    refine ⟨?_, fun hn h0 test => ?_, fun hp pg => ?_⟩
    · rintro rfl h0 test
      exact exec_tr6ReadCode h0 test la v d u w ps double
    · exact exec_tr6ReadData h0 test la v d u w ps (searchData_double hn double)
    · have own : tlbOf s.cfg.variant n = n := by
        cases n with
        | data4M => rw [hp rfl]; rfl
        | code | data4K => cases s.cfg.variant <;> rfl
      exact (if_pos pg).trans (lookupTlb_double own double)

/-! ### The TLB read (rules R226, R227) -/

/-- The entry pointer after a hit: the way on `P`, the number on `PMMX` (rules R226, R227). -/
theorem tr7AfterHit_entry {s : State} {k : Nat} (hk : k < 64) (n : TlbName) :
    (tr7AfterHit n k s).entry.toNat = (match s.cfg.variant with | .p => k % 4 | .pmmx => k) := by
  unfold tr7AfterHit
  cases s.cfg.variant <;> simp only [BitVec.toNat_ofNat] <;> omega

/-- On `P` the LRU bits reported are those before the read (rules R226, R227). -/
theorem tr7AfterHit_lru {s : State} (hp : s.cfg.variant = .p) (n : TlbName) (k : Nat) :
    (tr7AfterHit n k s).lru = Sparse.get 0 (s.tlbs.lru n) (k / 4) := by
  rw [tr7AfterHit, hp]

theorem tr7AfterHit_pmmx {s : State} (hm : s.cfg.variant = .pmmx) (n : TlbName) (k : Nat) :
    tr7AfterHit n k s =
      { pa := (s.tlbs.entry n k).ppn, pcd := (s.tlbs.entry n k).pcd, pwt := (s.tlbs.entry n k).pwt
        lru := s.tlbTest.tr7.lru, h := true, entry := BitVec.ofNat 6 k } := by
  rw [tr7AfterHit, hm]

/-- A hit changes no entry (rules R226, R227). -/
theorem tlbsAfterHit_entry (n m : TlbName) (k j : Nat) (s : State) :
    (tlbsAfterHit n k s).entry m j = s.tlbs.entry m j := by
  unfold tlbsAfterHit
  cases s.cfg.variant
  · exact entry_putLru _ _ _ _ _ _
  · rfl

/-- The end of a read moves the test registers, the TLBs and the free values. -/
theorem tlbReadDone_onlyParts (tr6 : Tr6) (tr7 : Tr7) (tlbs : Tlbs) (s : State) :
    OnlyParts [.tlbTest, .tlbs, .draws] s ((tlbReadDone tr6 tr7 tlbs s).useDraws 10) := by
  have regs : KeptBut [.tlbTest] s (s.withTlbTest ⟨tr6, tr7⟩) :=
    ⟨rfl, fun p hp => by cases p <;> simp_all [Part.kept]⟩
  exact (onlyParts_advance ((regs.mono (by decide)).trans ((withTlbs_kept _ tlbs).mono (by decide))) rfl).andThen
    ((useDraws_kept _ 10).mono (by decide)) rfl

/-- After a miss the TLBs stay as well. -/
theorem tlbReadMiss_onlyParts (tr6 : Tr6) (tr7 : Tr7) (s : State) :
    OnlyParts [.tlbTest, .draws] s ((tlbReadDone tr6 tr7 s.tlbs s).useDraws 10) := by
  obtain ⟨regs, ⟨cfg, others⟩, eip⟩ := tlbReadDone_onlyParts tr6 tr7 s.tlbs s
  refine ⟨regs, ⟨cfg, fun p hp => ?_⟩, eip⟩
  by_cases h : p = .tlbs
  · subst h
    rfl
  · exact others p (by simp_all)

/-- A hit on an entry of good parity, after TR6 is stored (rule R236). -/
theorem tlbRead_good {n : TlbName} {k : Nat} {s : State} {e : TlbEntry} (entry : s.tlbs.entry n k = e)
    (tag : e.badTag = false) (data : e.badData = false) (f : Tr6) (onMiss : State → Tr6)
    (onHit : TlbEntry → State → Tr6) :
    tlbRead (.hit n k) onMiss onHit (s.latchTr6 f) =
      .next ((tlbReadDone (onHit e (s.latchTr6 f)) (tr7AfterHit n k (s.latchTr6 f))
        (tlbsAfterHit n k (s.latchTr6 f)) (s.latchTr6 f)).useDraws 10) := by
  subst entry
  rw [tlbRead, withTlbTest_tlbs, checkParity_good (by rw [tag, data]; rfl)]

/-- Settles O42: one match of good parity is the hit, none the miss. -/
theorem codeTlbRead : Obligations.CodeTlbRead := by
  intro s la v d u w ps h0 test
  refine ⟨fun k e hk he valid page others tag data => ?_, fun none => ?_⟩
  · subst he
    have found : searchCode s.cfg.variant s.tlbs la = .hit .code k :=
      congrArg (searchOf .code) (tlbMatches_eq_singleton hk (tlbMatch_code.mpr ⟨valid, page⟩) others)
    have run := (exec_tr6ReadCode h0 test la v d u w ps found).trans (tlbRead_good rfl tag data _ _ _)
    exact ⟨_, run, rfl, rfl, rfl, rfl, tr7AfterHit_entry (s := s.latchTr6 _) (tlbCandidates_lt hk) .code,
      fun hp => tr7AfterHit_lru (s := s.latchTr6 _) hp .code k, valid, rfl, rfl,
      fun n j => tlbsAfterHit_entry .code n k j (s.latchTr6 _),
      (tlbReadDone_onlyParts _ _ _ _).before ((latchTr6_kept s _).mono (by decide)) rfl⟩
  · have missed : searchCode s.cfg.variant s.tlbs la = .miss :=
      congrArg (searchOf .code) (tlbMatches_eq_nil none)
    exact ⟨_, exec_tr6ReadCode h0 test la v d u w ps missed, rfl, rfl,
      (tlbReadMiss_onlyParts _ _ _).before ((latchTr6_kept s _).mono (by decide)) rfl⟩

/-- Settles O43: as for the code TLB, with the order in which `P` searches its two data TLBs. -/
theorem dataTlbRead : Obligations.DataTlbRead := by
  intro s la v d u w ps h0 test
  refine ⟨fun n k e hn hk he valid page others no4M single tag data => ?_, fun none => ?_⟩
  · subst he
    have one : tlbMatches s.cfg.variant s.tlbs n la = [k] := by
      refine tlbMatches_eq_singleton hk ((tlbMatch_data ?_).mpr ⟨valid, page⟩) others
      rcases hn with rfl | ⟨rfl, -⟩ <;> nofun
    have found : searchData s.cfg.variant s.tlbs la = .hit n k := by
      refine searchData_hit hn one (fun hp h4K => tlbMatches_eq_nil (no4M hp h4K)) fun h4M => ?_
      refine searchOf_ne_double ((tlbCandidates_nodup _ _ _).filter _) fun i hi j hj => ?_
      obtain ⟨hi, mi⟩ := mem_tlbMatches.mp hi
      obtain ⟨hj, mj⟩ := mem_tlbMatches.mp hj
      exact single h4M i hi j hj mi mj
    have run := (exec_tr6ReadData h0 test la v d u w ps found).trans (tlbRead_good rfl tag data _ _ _)
    refine ⟨_, run, rfl, rfl, rfl, rfl, tr7AfterHit_entry (s := s.latchTr6 _) (tlbCandidates_lt hk) n,
      fun hp => tr7AfterHit_lru (s := s.latchTr6 _) hp n k, ?_,
      fun m j => tlbsAfterHit_entry n m k j (s.latchTr6 _),
      (tlbReadDone_onlyParts _ _ _ _).before ((latchTr6_kept s _).mono (by decide)) rfl⟩
    rw [← valid]
    rfl
  · have missed : searchData s.cfg.variant s.tlbs la = .miss :=
      searchData_miss fun n hn => tlbMatches_eq_nil (none n hn)
    exact ⟨_, exec_tr6ReadData h0 test la v d u w ps missed, rfl, rfl,
      (tlbReadMiss_onlyParts _ _ _).before ((latchTr6_kept s _).mono (by decide)) rfl⟩

/-! ### A read of an entry with bad parity (rules R236, R287) -/

/-- A report leaves the entry to be delivered as it is. -/
theorem tr7AfterHit_parityError (n : TlbName) (k : Nat) (s : State) :
    tr7AfterHit n k (parityError s) = tr7AfterHit n k s := by
  unfold tr7AfterHit
  rw [parityError_cfg, parityError_tlbs, parityError_tlbTest]

/-- The error is reported whatever is read: with NS = 1 the entry is delivered, with NS = 0 nothing happens but the
shutdown (rules R287, R470; log 15). -/
theorem tlbRead_bad {n : TlbName} {k : Nat} {s : State} (hk : k < 64)
    (bad : (s.tlbs.entry n k).badTag = true ∨ (s.tlbs.entry n k).badData = true) (f : Tr6) (onMiss : State → Tr6)
    (onHit : TlbEntry → State → Tr6) :
    ∃ t, tlbRead (.hit n k) onMiss onHit (s.latchTr6 f) = .next t ∧ t.parity = { s.parity with pes := true } ∧
      t.trace = .ierr :: s.trace ∧
      (s.parity.bit 1 = true →
        t.tlbTest.tr7.h = true ∧ t.tlbTest.tr7.pa = (s.tlbs.entry n k).ppn ∧
        t.tlbTest.tr7.entry.toNat = (match s.cfg.variant with | .p => k % 4 | .pmmx => k) ∧
        OnlyParts [.parity, .tlbTest, .tlbs, .trace, .draws] s t) ∧
      (s.parity.bit 1 = false →
        t.run = .shutdown ∧ t.tlbTest = { s.tlbTest with tr6 := f } ∧
        KeptBut [.parity, .tlbTest, .run, .trace, .draws] s t) := by
  have found : (((s.latchTr6 f).tlbs.entry n k).badTag || ((s.latchTr6 f).tlbs.entry n k).badData) = true := by
    simpa using bad
  have latched := latchTr6_kept s f
  refine ⟨_, rfl, ?_⟩
  dsimp only
  cases ns : s.parity.bit 1 with
  | true =>
    have running : (s.latchTr6 f).parity.ns = true := ns
    rw [checkParity_reported found running]
    have regs := tr7AfterHit_parityError n k (s.latchTr6 f)
    refine ⟨parityError_parity _, parityError_trace _,
      fun _ => ⟨rfl, congrArg Tr7.pa regs, ?_, ?_⟩, nofun⟩
    · exact (congrArg (fun r : Tr7 => r.entry.toNat) regs).trans (tr7AfterHit_entry hk n)
    · exact ((tlbReadDone_onlyParts _ _ _ _).mono (by decide)).before
        ((latched.mono (by decide)).trans ((parityError_kept_ns running).mono (by decide))) (parityError_core _)
  | false =>
    have stopping : (s.latchTr6 f).parity.ns = false := ns
    rw [checkParity_stopped found stopping]
    refine ⟨parityError_parity _, parityError_trace _, nofun, fun _ => ⟨?_, parityError_tlbTest _, ?_⟩⟩
    · exact (parityError_run _).trans (if_neg (by rw [stopping]; exact Bool.false_ne_true))
    · exact (latched.mono (by decide)).trans
        (((parityError_kept _).mono (by decide)).trans ((useDraws_kept _ 10).mono (by decide)))

/-- Settles O45: the entry found is the one whose parity is checked, in either read. -/
theorem tlbBadParityIsReported : Obligations.TlbBadParityIsReported := by
  intro s la v d u w ps n k h0 test bad
  rw [List.forall_mem_cons, List.forall_mem_singleton]
  refine ⟨fun found => ?_, fun found => ?_⟩
  · rw [exec_tr6ReadCode h0 test la v d u w ps found]
    exact tlbRead_bad (searchCode_key_lt found) bad _ _ _
  · rw [exec_tr6ReadData h0 test la v d u w ps found]
    exact tlbRead_bad (searchData_key_lt found) bad _ _ _

/-! ### The read after the write (rules R224 to R227, R231, R232) -/

/-- An entry stored that answers a page, where no other does, is the one match of the page. -/
theorem tlbMatches_of_stored {v : Variant} {old new : Tlbs} {n : TlbName} {key : Nat} {e : TlbEntry} {la : BitVec 20}
    (entries : ∀ m k, new.entry m k = if m = n ∧ k = key then e else old.entry m k)
    (candidate : key ∈ tlbCandidates v n la) (answers : tlbMatch n e la = true)
    (others : ∀ j ∈ tlbCandidates v n la, j ≠ key → tlbMatch n (old.entry n j) la = false) :
    tlbMatches v new n la = [key] := by
  refine tlbMatches_eq_singleton candidate ?_ fun j hj ne => ?_
  · rw [entries, if_pos ⟨rfl, rfl⟩, answers]
  · rw [entries, if_neg fun same => ne same.2, others j hj ne]

/-- A command leaves the privilege and the variant of the next one as they were. -/
theorem OnlyParts.cpl_variant {parts : List Part} {s t : State} (h : OnlyParts parts s t) :
    t.core.cpl = s.core.cpl ∧ t.cfg.variant = s.cfg.variant := by
  obtain ⟨regs, ⟨cfg, -⟩, -⟩ := h
  exact ⟨regs .cpl (by decide), congrArg Config.variant cfg⟩

/-- The code TLB on `PMMX`: the entry stored is the one match of its page. -/
theorem codeTlbWrite_read {s : State} {la : BitVec 20} (d u w ps : Bool) (h0 : s.core.cpl = 0) (test : TlbTestSet s)
    (hm : s.cfg.variant = .pmmx) (hit : s.tlbTest.tr7.h = true) (tag : s.parity.bit 7 = false)
    (data : s.parity.bit 8 = false)
    (others : ∀ j, j < 32 → j ≠ s.tlbTest.tr7.entry.toNat % 32 → tlbMatch .code (s.tlbs.entry .code j) la = false) :
    ∃ t x, exec (.tr6WriteCode la true d u w ps) s = .next t ∧ exec (.tr6ReadCode la true d u w ps) t = .next x ∧
      x.tlbTest.tr7.h = true ∧ x.tlbTest.tr7.pa = s.tlbTest.tr7.pa ∧ x.tlbTest.tr7.pcd = s.tlbTest.tr7.pcd ∧
      x.tlbTest.tr7.pwt = s.tlbTest.tr7.pwt ∧
      x.tlbTest.tr7.entry.toNat = s.tlbTest.tr7.entry.toNat % 32 ∧ x.tlbTest.tr6.u = u := by
  obtain ⟨⟨t, write, entries, -, -, -, test', only⟩, -⟩ := tlbWriteStores s la true d u w ps h0 test hit
  obtain ⟨cpl, variant⟩ := only.cpl_variant
  have key : tlbKey .pmmx .code la s.tlbTest.tr7.entry = s.tlbTest.tr7.entry.toNat % 32 := rfl
  have candidate : s.tlbTest.tr7.entry.toNat % 32 ∈ tlbCandidates .pmmx .code la :=
    List.mem_range.mpr (Nat.mod_lt _ (by decide))
  rw [hm, key] at entries
  rw [hm] at variant
  have stored := (entries .code (s.tlbTest.tr7.entry.toNat % 32)).trans (if_pos ⟨rfl, rfl⟩)
  have matched : tlbMatches .pmmx t.tlbs .code la = [s.tlbTest.tr7.entry.toNat % 32] :=
    tlbMatches_of_stored entries candidate (tlbMatch_code.mpr ⟨rfl, rfl⟩) fun j hj => others j (List.mem_range.mp hj)
  have found : searchCode t.cfg.variant t.tlbs la = .hit .code (s.tlbTest.tr7.entry.toNat % 32) := by
    rw [variant, searchCode, matched]
    rfl
  have run := (exec_tr6ReadCode (cpl.trans h0) test' la true d u w ps found).trans
    (tlbRead_good stored tag data _ _ _)
  refine ⟨t, _, write, run, rfl, congrArg TlbEntry.ppn stored, congrArg TlbEntry.pcd stored,
    congrArg TlbEntry.pwt stored, (tr7AfterHit_entry (tlbCandidates_lt candidate) .code).trans ?_, rfl⟩
  rw [withTlbTest_cfg, variant]

/-- The data TLB on `PMMX`: the entry stored is the one match of its page, a 4-Mbyte entry of each page it covers. -/
theorem dataTlbWrite_read {s : State} {la la' : BitVec 20} {d u w ps : Bool} (h0 : s.core.cpl = 0)
    (test : TlbTestSet s) (hm : s.cfg.variant = .pmmx) (hit : s.tlbTest.tr7.h = true) (tag : s.parity.bit 11 = false)
    (data : s.parity.bit 12 = false) (page : la' = la ∨ (ps = true ∧ la'.toNat / 2 ^ 10 = la.toNat / 2 ^ 10))
    (others : ∀ j, j < 64 → j ≠ s.tlbTest.tr7.entry.toNat → tlbMatch .data4K (s.tlbs.entry .data4K j) la' = false) :
    ∃ t x, exec (.tr6WriteData la true d u w ps) s = .next t ∧ exec (.tr6ReadData la' false d u w false) t = .next x ∧
      x.tlbTest.tr7 = s.tlbTest.tr7 ∧ x.tlbTest.tr6 = ⟨la', true, d, u, w, ps, true, true⟩ := by
  obtain ⟨-, ⟨t, write, entries, -, regs, -, test', only⟩⟩ := tlbWriteStores s la true d u w ps h0 test hit
  obtain ⟨cpl, variant⟩ := only.cpl_variant
  have one : dataTlb .pmmx ps = .data4K := rfl
  have key : tlbKey .pmmx .data4K la s.tlbTest.tr7.entry = s.tlbTest.tr7.entry.toNat :=
    Nat.mod_eq_of_lt s.tlbTest.tr7.entry.isLt
  rw [hm, one, key] at entries
  rw [hm] at variant
  have stored := (entries .data4K s.tlbTest.tr7.entry.toNat).trans (if_pos ⟨rfl, rfl⟩)
  have covers : if ps then la.toNat / 2 ^ 10 = la'.toNat / 2 ^ 10 else la = la' := by
    rcases page with rfl | ⟨rfl, same⟩
    · split <;> rfl
    · exact same.symm
  have matched : tlbMatches .pmmx t.tlbs .data4K la' = [s.tlbTest.tr7.entry.toNat] :=
    tlbMatches_of_stored entries (List.mem_range.mpr s.tlbTest.tr7.entry.isLt)
      ((tlbMatch_data (by decide)).mpr ⟨rfl, covers⟩) fun j hj => others j (List.mem_range.mp hj)
  have found : searchData t.cfg.variant t.tlbs la' = .hit .data4K s.tlbTest.tr7.entry.toNat := by
    rw [variant, searchData_pmmx, matched]
    rfl
  have run := (exec_tr6ReadData (cpl.trans h0) test' la' false d u w false found).trans
    (tlbRead_good stored tag data _ _ _)
  refine ⟨t, _, write, run, ?_, rfl⟩
  refine (tr7AfterHit_pmmx variant .data4K _).trans ?_
  rw [stored, regs, BitVec.ofNat_toNat, BitVec.setWidth_eq, ← hit]

/-- Settles O44: the code TLB and the data TLB, one after the other. -/
theorem tlbWriteThenRead : Obligations.TlbWriteThenRead := by
  intro s la la' d u w ps h0 test hm hit
  exact ⟨codeTlbWrite_read d u w ps h0 test hm hit, dataTlbWrite_read h0 test hm hit⟩

end Sys2Proof.Machine

/-!
PROOF. The flushes that clear valid bits: a load of CR3 and the BTB flush of TR11 (O55).
-/

namespace Sys2Proof.Machine

/-! ### The entries after a flush (rules R230, R257) -/

theorem entry_flush {t : Tlbs} (h : t.Canonical) (n : TlbName) (k : Nat) :
    t.flush.entry n k = { t.entry n k with v := false } := by
  obtain ⟨code, data, data4M, -⟩ := h
  have cleared {b : Nat} {m : Sparse TlbEntry} (hm : Sparse.Canonical TlbEntry.empty b m) :
      Sparse.get TlbEntry.empty (flushTlb m) k = { Sparse.get TlbEntry.empty m k with v := false } :=
    Sparse.get_mapAll (f := fun e : TlbEntry => { e with v := false }) hm rfl k
  cases n with
  | code => exact cleared code
  | data4K => exact cleared data
  | data4M => exact cleared data4M

theorem get_flushBtb {b : Sparse BtbEntry} (h : Sparse.Canonical BtbEntry.empty 256 b) (k : Nat) :
    Sparse.get BtbEntry.empty (flushBtb b) k = { Sparse.get BtbEntry.empty b k with valid := false } :=
  Sparse.get_mapAll (f := fun e : BtbEntry => { e with valid := false }) h rfl k

/-! ### A load of CR3 (rules R230, R260, R478) -/

/-- Around the effect of an instruction of the IA-32 core only clocks pass. -/
theorem executed_kept {effect : State → State} {parts : List Part} (h : ∀ u, KeptBut parts u (effect u)) (s : State) :
    KeptBut (parts ++ [.perf, .occurred, .draws]) s (executed effect s) :=
  ((beforeInstruction_kept s).mono (by simp)).trans
    (((h _).mono (List.subset_append_left _ _)).trans ((afterInstruction_kept s.draws _).mono (by simp)))

theorem loadCr3Effect_kept (x : Word) (s : State) :
    KeptBut [.core, .tlbs, .tlbSequence, .btb] s (loadCr3Effect x s) :=
  ⟨rfl, fun p hp => by cases p <;> simp_all [Part.kept, loadCr3Effect]⟩

/-- A load of CR3 at CPL 0 (rule R478). -/
theorem agentMove_loadCr3 {s : State} (h0 : s.core.cpl = 0) (x : Word) :
    agentMove (.loadCr3 x) s = .next (executed (loadCr3Effect x) s) := privileged_zero h0 _

theorem loadCr3_coreKeptBut (x : Word) (s : State) : CoreKeptBut [.cr3] s (executed (loadCr3Effect x) s) := by
  intro r hr
  cases r
  case cr3 => exact absurd (List.mem_singleton.mpr rfl) hr
  all_goals rfl

/-! ### The BTB flush of TR11 (rule R257) -/

/-- Operands that fit the variant pass the check, with a control value the variant has (rules R43, R44, R258). -/
theorem tr11Operands_of_fits {s : State} {f : Tr11} (fits : tr11Fits s.cfg.variant f.btype f.set f.bank = true)
    (control : f.control.getLsbD 2 = false) (k : Result) : tr11Operands f s k = k := by
  unfold tr11Operands
  cases hv : s.cfg.variant with
  | p =>
    rw [hv, tr11Fits, Bool.and_eq_true, beq_iff_eq, beq_iff_eq] at fits
    exact if_pos ⟨fits.1, fits.2, control⟩
  | pmmx =>
    rw [hv] at fits
    exact if_pos (of_decide_eq_true fits)

/-- TR11 has 32 defined bits, so what is stored unpacks to the fields (rule R43). -/
theorem unpackTr11_latched {v : Variant} {f : Tr11} (fits : tr11Fits v f.btype f.set f.bank = true)
    (control : v = .p → f.control.toNat < 4) : unpackTr11 v ((lowHalf (packTr11 v f)).setWidth 64) = f := by
  have low : (packTr11 v f).toNat < 2 ^ 32 := packTr11_eq v f ▸ packFields_lt (tr11Fields_layout v f).2
  have whole : (lowHalf (packTr11 v f)).setWidth 64 = packTr11 v f := by
    apply BitVec.eq_of_toNat_eq
    rw [BitVec.toNat_setWidth, lowHalf_toNat]
    omega
  rw [whole, unpackTr11_pack fits control]

theorem latchTr11_kept (s : State) (f : Tr11) : KeptBut [.btbTest] s (s.latchTr11 f) := keptBut_btbTest s _

theorem withBtb_kept (s : State) (x : Sparse BtbEntry) : KeptBut [.btb] s (s.withBtb x) :=
  ⟨rfl, fun p hp => by cases p <;> simp_all [Part.kept]⟩

/-- Settles O55: every listed entry is changed, an unlisted one is invalid as it is, and the loads stand behind the
privilege check. -/
theorem flushesClearValidBits : Obligations.FlushesClearValidBits := by
  intro s canonical
  obtain ⟨-, tlbs, btb, -⟩ := canonical
  refine ⟨fun x h0 => ?_, fun btype set bank way h0 nbp fits => ?_, fun x user => ?_⟩
  · exact ⟨_, agentMove_loadCr3 h0 x, rfl, entry_flush tlbs, get_flushBtb btb, rfl, rfl,
      loadCr3_coreKeptBut x s, (executed_kept (loadCr3Effect_kept x) s).mono (by decide)⟩
  · obtain ⟨bit, low⟩ : (3 : BitVec 3).getLsbD 2 = false ∧ (3 : BitVec 3).toNat < 4 := by decide
    have run : exec (.tr11Flush btype set bank way) s =
        .next (((s.latchTr11 ⟨3, set, bank, way, btype⟩).withBtb (flushBtb s.btb)).advance 2) :=
      (tr11Access_next (f := ⟨3, set, bank, way, btype⟩)
        (command := fun t => .next ((t.withBtb (flushBtb t.btb)).advance 2))).mpr
        ⟨h0, tr11Operands_of_fits fits bit _, nbp, rfl⟩
    exact ⟨_, run, get_flushBtb btb,
      unpackTr11_latched (f := ⟨3, set, bank, way, btype⟩) fits fun _ => low, rfl,
      onlyParts_advance (((latchTr11_kept s _).mono (by decide)).trans ((withBtb_kept _ _).mono (by decide))) rfl⟩
  · rw [List.forall_mem_cons, List.forall_mem_cons, List.forall_mem_singleton]
    exact ⟨privileged_user user _, privileged_user user _, privileged_user user _⟩

end Sys2Proof.Machine

/-!
PROOF. The commands of TR11 on the entries of the BTB: normal operation, the testability write on either variant, the
two reads, and the reads after the write (O46 to O50).
-/

namespace Sys2Proof.Machine

/-! ### A command of TR11 (rules R43, R252, R263) -/

/-- A command of the control values that both variants have runs on the state with its value stored. -/
theorem tr11Access_eq {s : State} {f : Tr11} (h0 : s.core.cpl = 0) (nbp : BtbTestSet s)
    (fits : tr11Fits s.cfg.variant f.btype f.set f.bank = true) (control : f.control.getLsbD 2 = false)
    (command : State → Result) : tr11Access f command s = command (s.latchTr11 f) := by
  have pre : btbTestPre s = true := nbp
  rw [tr11Access, privileged_zero h0, tr11Operands_of_fits fits control, inTestProcedure, if_pos pre]

theorem tr11Fits_pmmx {s : State} {set : BitVec 6} (hm : s.cfg.variant = .pmmx) (hs : set.toNat < 16)
    (btype bank : BitVec 2) : tr11Fits s.cfg.variant btype set bank = true := by
  rw [hm]
  exact decide_eq_true hs

section Commands
variable {s : State} (h0 : s.core.cpl = 0) (nbp : BtbTestSet s) {btype : BitVec 2} {set : BitVec 6} {bank : BitVec 2}
  (fits : tr11Fits s.cfg.variant btype set bank = true) (way : BitVec 2)
include h0 nbp fits

theorem exec_tr11Normal :
    exec (.tr11Normal btype set bank way) s = .next ((s.latchTr11 ⟨0, set, bank, way, btype⟩).advance 2) :=
  tr11Access_eq (f := ⟨0, set, bank, way, btype⟩) h0 nbp fits (by simp) fun t => .next (t.advance 2)

theorem exec_tr11Write :
    exec (.tr11Write btype set bank way) s =
      btbWrite ⟨1, set, bank, way, btype⟩ (s.latchTr11 ⟨1, set, bank, way, btype⟩) :=
  tr11Access_eq (f := ⟨1, set, bank, way, btype⟩) h0 nbp fits (by simp) _

theorem exec_tr11ReadData :
    exec (.tr11ReadData btype set bank way) s =
      .next (btbReadData ⟨2, set, bank, way, btype⟩ (s.latchTr11 ⟨2, set, bank, way, btype⟩)) :=
  tr11Access_eq (f := ⟨2, set, bank, way, btype⟩) h0 nbp fits (by simp) fun t => .next (btbReadData _ t)

theorem exec_tr11ReadTag (hm : s.cfg.variant = .pmmx) :
    exec (.tr11ReadTag btype set bank way) s =
      .next (btbReadTag ⟨5, set, bank, way, btype⟩ (s.latchTr11 ⟨5, set, bank, way, btype⟩)) := by
  rw [hm] at fits
  exact tr11Access_runs h0 (f := ⟨5, set, bank, way, btype⟩) hm (of_decide_eq_true fits) nbp
    fun t => .next (btbReadTag _ t)

end Commands

/-- Settles O46: the latched fields are all the command leaves. -/
theorem tr11NormalLatches : Obligations.Tr11NormalLatches := by
  intro s btype set bank way h0 nbp fits
  exact ⟨_, exec_tr11Normal h0 nbp fits way,
    unpackTr11_latched (f := ⟨0, set, bank, way, btype⟩) fits fun _ => Nat.zero_lt_succ _, rfl,
    onlyParts_advance (latchTr11_kept s _) rfl⟩

/-! ### The fields of TR9 and TR11 (rules R41, R43) -/

/-- A field of a register, given bit by bit, as a number. -/
theorem field_toNat {x : Word} {k m : Nat} {y : BitVec m} (h : ∀ i < m, x.getLsbD (k + i) = y.getLsbD i) :
    x.toNat / 2 ^ k % 2 ^ m = y.toNat := by
  have whole : x.extractLsb' k m = y := by
    apply BitVec.eq_of_getLsbD_eq
    intro i hi
    rw [BitVec.getLsbD_extractLsb', h i hi, decide_eq_true hi, Bool.true_and]
  rw [← whole, BitVec.extractLsb'_toNat, Nat.shiftRight_eq_div_pow]

/-- A field that ends with the register, at bit 31. -/
theorem topField_toNat {x : Word} {k m : Nat} {y : BitVec m} (top : k + m = 32)
    (h : ∀ i < m, x.getLsbD (k + i) = y.getLsbD i) : x.toNat / 2 ^ k = y.toNat := by
  have below : x.toNat / 2 ^ k < 2 ^ m := Nat.div_lt_of_lt_mul (by rw [← pow_add, top]; exact x.isLt)
  rw [← field_toNat h, Nat.mod_eq_of_lt below]

/-- A field that begins with the register, at bit 0. -/
theorem lowField_toNat {x : Word} {m : Nat} {y : BitVec m} (h : ∀ i < m, x.getLsbD i = y.getLsbD i) :
    x.toNat % 2 ^ m = y.toNat := by
  have field := field_toNat (x := x) (k := 0) (y := y) fun i hi => by rw [Nat.zero_add, h i hi]
  rwa [pow_zero, Nat.div_one] at field

theorem topField_congr {x y : Word} {k : Nat} (h : ∀ n < 32, k ≤ n → x.getLsbD n = y.getLsbD n) :
    x.toNat / 2 ^ k = y.toNat / 2 ^ k := by
  have shifted : x >>> k = y >>> k := by
    apply BitVec.eq_of_getLsbD_eq
    intro i _
    rw [BitVec.getLsbD_ushiftRight, BitVec.getLsbD_ushiftRight]
    by_cases within : k + i < 32
    · exact h _ within (Nat.le_add_right k i)
    · rw [BitVec.getLsbD_of_ge _ _ (by omega), BitVec.getLsbD_of_ge _ _ (by omega)]
  rw [← Nat.shiftRight_eq_div_pow, ← Nat.shiftRight_eq_div_pow, ← BitVec.toNat_ushiftRight, shifted,
    BitVec.toNat_ushiftRight]

theorem tr9Tag_pmmx_toNat (x : Word) : (tr9Tag .pmmx x).toNat = x.toNat / 2 ^ 8 := by
  rw [tr9Tag, BitVec.toNat_setWidth, BitVec.extractLsb'_toNat, Nat.shiftRight_eq_div_pow]
  omega

theorem tr9Tag_p_toNat (x : Word) : (tr9Tag .p x).toNat = x.toNat / 2 ^ 6 := by
  rw [tr9Tag, BitVec.extractLsb'_toNat, Nat.shiftRight_eq_div_pow]
  omega

theorem tr9History_pmmx_toNat (x : Word) : (tr9History .pmmx x).toNat = x.toNat % 16 := by
  rw [tr9History, BitVec.extractLsb'_toNat, Nat.shiftRight_zero]

theorem tr9History_p_toNat (x : Word) : (tr9History .p x).toNat = x.toNat % 4 := by
  rw [tr9History, BitVec.toNat_setWidth, BitVec.extractLsb'_toNat, Nat.shiftRight_zero]
  omega

/-! ### TR9 and TR11 after a read, bit by bit (rules R255, R256) -/

/-- A field moved to position `k`. -/
theorem getLsbD_placed {m : Nat} (y : BitVec m) (k : Nat) {n : Nat} (hn : n < 32) :
    (y.setWidth 32 <<< k).getLsbD n = (decide (k ≤ n) && y.getLsbD (n - k)) := by
  simp [hn, ← decide_not]

theorem getLsbD_tr9AfterReadData (x : Word) (e : BtbEntry) {n : Nat} (hn : n < 32) :
    (tr9AfterReadData x e).getLsbD n =
      if 8 ≤ n ∨ n = 5 then x.getLsbD n else if 6 ≤ n then e.offset.getLsbD (n - 6)
      else if n = 4 then e.prediction else e.history.getLsbD n := by
  have mask : ∀ n < 32, (0xDF : Word).getLsbD n = !decide (8 ≤ n ∨ n = 5) := by decide
  rw [tr9AfterReadData, getLsbD_replaceBits _ _ _ hn, mask n hn, BitVec.getLsbD_or, BitVec.getLsbD_or,
    getLsbD_placed _ _ hn, getLsbD_placed _ _ hn, BitVec.getLsbD_setWidth]
  by_cases kept : 8 ≤ n ∨ n = 5
  · simp [kept]
  · by_cases offset : 6 ≤ n
    · have past : (BitVec.ofBool e.prediction).getLsbD (n - 4) = false ∧ e.history.getLsbD n = false :=
        ⟨BitVec.getLsbD_of_ge _ _ (by omega), BitVec.getLsbD_of_ge _ _ (by omega)⟩
      simp [kept, offset, past]
    · by_cases prediction : n = 4
      · simp [prediction]
      · have low : ¬4 ≤ n := by omega
        simp [kept, offset, prediction, low, hn]

theorem getLsbD_tr9AfterReadTag (x : Word) (e : BtbEntry) {n : Nat} (hn : n < 32) :
    (tr9AfterReadTag x e).getLsbD n =
      if 8 ≤ n then e.tag.getLsbD (n - 8) else if n = 5 then e.valid else x.getLsbD n := by
  have mask : ∀ n < 32, (0xFFFFFF20 : Word).getLsbD n = decide (8 ≤ n ∨ n = 5) := by decide
  rw [tr9AfterReadTag, getLsbD_replaceBits _ _ _ hn, mask n hn, BitVec.getLsbD_or, getLsbD_placed _ _ hn,
    getLsbD_placed _ _ hn]
  by_cases tag : 8 ≤ n
  · have past : (BitVec.ofBool e.valid).getLsbD (n - 5) = false := BitVec.getLsbD_of_ge _ _ (by omega)
    simp [tag, past]
  · by_cases valid : n = 5
    · simp [valid]
    · simp [tag, valid]

theorem getLsbD_tr9AfterReadP (x : Word) (e : BtbEntry) {n : Nat} (hn : n < 32) :
    (tr9AfterReadP x e).getLsbD n =
      if 6 ≤ n then e.tag.getLsbD (n - 6) else if 2 ≤ n then x.getLsbD n else e.history.getLsbD n := by
  have mask : ∀ n < 32, (0xFFFFFFC3 : Word).getLsbD n = decide (6 ≤ n ∨ n < 2) := by decide
  have low : ∀ n < 32, (3 : Word).getLsbD n = decide (n < 2) := by decide
  rw [tr9AfterReadP, getLsbD_replaceBits _ _ _ hn, mask n hn, BitVec.getLsbD_or, getLsbD_placed _ _ hn,
    BitVec.getLsbD_and, low n hn, BitVec.getLsbD_setWidth]
  by_cases tag : 6 ≤ n
  · have past : ¬n < 2 := by omega
    simp [tag, past]
  · by_cases history : n < 2
    · have past : ¬2 ≤ n := by omega
      simp [tag, history, past, hn]
    · have past : 2 ≤ n := by omega
      simp [tag, history, past]

theorem getLsbD_tr11WithType (x : Word) (t : BitVec 2) {n : Nat} (hn : n < 32) :
    (tr11WithType x t).getLsbD n = if 24 ≤ n ∧ n < 26 then t.getLsbD (n - 24) else x.getLsbD n := by
  have mask : ∀ n < 32, (0x03000000 : Word).getLsbD n = decide (24 ≤ n ∧ n < 26) := by decide
  rw [tr11WithType, getLsbD_replaceBits _ _ _ hn, mask n hn, getLsbD_placed _ _ hn]
  by_cases type : 24 ≤ n ∧ n < 26 <;> simp [type]

/-- A branch type delivered into TR11 changes that field alone. -/
theorem unpackTr11_tr11WithType (x : Word) (t : BitVec 2) :
    unpackTr11 .pmmx ((tr11WithType x t).setWidth 64) = { unpackTr11 .pmmx (x.setWidth 64) with btype := t } := by
  have bit {n : Nat} (hn : n < 32) : ((tr11WithType x t).setWidth 64).getLsbD n =
      if 24 ≤ n ∧ n < 26 then t.getLsbD (n - 24) else (x.setWidth 64).getLsbD n := by
    rw [BitVec.getLsbD_setWidth, BitVec.getLsbD_setWidth, getLsbD_tr11WithType x t hn,
      decide_eq_true (show n < 64 by omega), Bool.true_and, Bool.true_and]
  have kept {w : Nat} {ps : List Nat} (h : ∀ p ∈ ps, p < 24) :
      fieldBits w ps ((tr11WithType x t).setWidth 64) = fieldBits w ps (x.setWidth 64) :=
    fieldBits_congr fun p hp => by
      have below := h p hp
      rw [bit (by omega), if_neg (by omega)]
  have delivered : fieldBits 2 [24, 25] ((tr11WithType x t).setWidth 64) = t := by
    have value : ∀ t : BitVec 2,
        BitVec.ofNat 2 (boolNat (t.getLsbD 0) + 2 * (boolNat (t.getLsbD 1) + 2 * 0)) = t := by decide
    have low : ((tr11WithType x t).setWidth 64).getLsbD 24 = t.getLsbD 0 := bit (by decide)
    have high : ((tr11WithType x t).setWidth 64).getLsbD 25 = t.getLsbD 1 := bit (by decide)
    simp only [fieldBits, fieldNat, low, high]
    exact value t
  have positions : (∀ p ∈ tr11ControlBits .pmmx, p < 24) ∧ (∀ p ∈ tr11SetBits .pmmx, p < 24) ∧
      (∀ p ∈ tr11BankBits .pmmx, p < 24) ∧ ∀ p ∈ [2, 3], p < 24 := by decide
  obtain ⟨control, set, bank, way⟩ := positions
  rw [unpackTr11, unpackTr11, kept control, kept set, kept bank, kept way]
  exact congrArg _ delivered

/-! ### The ways of a set (rule R254) -/

theorem mem_ways (w : BitVec 2) : w ∈ [0#2, 1, 2, 3] := by
  revert w
  decide

theorem mem_sameTagWays {f : Tr11} {s : State} {w : BitVec 2} :
    w ∈ sameTagWays f s ↔
      w ≠ f.way ∧ (s.btbEntry f.set w f.bank).tag = tr9Tag s.cfg.variant s.btbTest.tr9 := by
  rw [sameTagWays, List.mem_filter, Bool.and_eq_true, bne_iff_ne, beq_iff_eq]
  exact and_iff_right (mem_ways w)

theorem mem_validSameTagWays {f : Tr11} {s : State} {w : BitVec 2} :
    w ∈ validSameTagWays f s ↔ w ∈ sameTagWays f s ∧ (s.btbEntry f.set w f.bank).valid = true := by
  rw [validSameTagWays, List.mem_filter]

theorem writeWays_of_noSameTag {f : Tr11} {s : State} (h : sameTagWays f s = []) : writeWays f s = [f.way] := if_pos h

theorem writeWays_of_validSameTag {f : Tr11} {s : State} {w : BitVec 2} (h : w ∈ validSameTagWays f s) :
    writeWays f s = validSameTagWays f s := by
  have same : sameTagWays f s ≠ [] := List.ne_nil_of_mem (mem_validSameTagWays.mp h).1
  rw [writeWays, if_neg same, if_neg (List.ne_nil_of_mem h)]

theorem writeWays_ne_nil (f : Tr11) (s : State) : writeWays f s ≠ [] := by
  unfold writeWays
  split
  · exact List.cons_ne_nil _ _
  · split
    · exact List.cons_ne_nil _ _
    · assumption

/-- The addressed way, or another that holds the tag. -/
theorem mem_writeWays {f : Tr11} {s : State} {w : BitVec 2} (h : w ∈ writeWays f s) :
    w = f.way ∨ w ∈ sameTagWays f s := by
  unfold writeWays at h
  split at h
  · exact .inl (List.mem_singleton.mp h)
  · split at h
    · exact List.mem_cons.mp h
    · exact .inr (mem_validSameTagWays.mp h).1

/-! ### The testability write (rule R254) -/

theorem btbEntry_putBtbEntry (s : State) (set : BitVec 6) (way bank : BitVec 2) (e : BtbEntry) :
    (s.putBtbEntry set way bank e).btbEntry set way bank = e := Sparse.get_put_same _ _ _ _

theorem putBtbEntry_kept (s : State) (set : BitVec 6) (way bank : BitVec 2) (e : BtbEntry) :
    KeptBut [.btb] s (s.putBtbEntry set way bank e) := withBtb_kept s _

/-- A write on `PMMX` goes to one of its ways; with one way to go to it uses no free value. -/
theorem btbWrite_pmmx {f : Tr11} {s : State} (hm : s.cfg.variant = .pmmx) :
    ∃ w ∈ writeWays f s, ∃ n, btbWrite f s = .next ((btbStore f s w).useDraws n) ∧
      ∀ x, writeWays f s = [x] → n = 0 := by
  unfold btbWrite
  rw [hm]
  dsimp only
  split
  · rename_i w only
    exact ⟨w, only ▸ List.mem_singleton_self w, 0, rfl, fun _ _ => rfl⟩
  · rename_i several
    have chosen : (s.free 0).toNat % (writeWays f s).length < (writeWays f s).length :=
      Nat.mod_lt _ (List.length_pos_of_ne_nil (writeWays_ne_nil f s))
    refine ⟨_, ?_, 1, rfl, fun x only => (several x only).elim⟩
    rw [List.getD_eq_getElem _ _ chosen]
    exact List.getElem_mem chosen

theorem btbEntryPmmx_eq {f : Tr11} {s : State} {e : BtbEntry} (tag : e.tag.toNat = s.btbTest.tr9.toNat / 2 ^ 8)
    (offset : e.offset.toNat = s.btbTest.tr9.toNat / 2 ^ 6 % 4) (valid : e.valid = s.btbTest.tr9.getLsbD 5)
    (prediction : e.prediction = s.btbTest.tr9.getLsbD 4) (history : e.history.toNat = s.btbTest.tr9.toNat % 16)
    (target : e.target = s.btbTest.tr10) (btype : e.btype = f.btype) : btbEntryPmmx f s = e := by
  have tags : e.tag = tr9Tag .pmmx s.btbTest.tr9 := BitVec.eq_of_toNat_eq (tag.trans (tr9Tag_pmmx_toNat _).symm)
  have histories : e.history = tr9History .pmmx s.btbTest.tr9 :=
    BitVec.eq_of_toNat_eq (history.trans (tr9History_pmmx_toNat _).symm)
  have offsets : e.offset = s.btbTest.tr9.extractLsb' 6 2 :=
    BitVec.eq_of_toNat_eq (offset.trans (by rw [BitVec.extractLsb'_toNat, Nat.shiftRight_eq_div_pow]))
  rw [btbEntryPmmx, ← tags, ← histories, ← target, ← valid, ← offsets, ← prediction, ← btype]

/-- What a write on `PMMX` leaves: the entry stored in one way, which the tags and valid bits of the others decide. -/
theorem btbWrite_pmmx_stores {f : Tr11} {s : State} {e : BtbEntry} (hm : s.cfg.variant = .pmmx)
    (stored : btbEntryPmmx f s = e) :
    ∃ t dest, btbWrite f s = .next t ∧
      (∀ k, Sparse.get BtbEntry.empty t.btb k =
        if k = btbKey .pmmx f.set dest f.bank then e else Sparse.get BtbEntry.empty s.btb k) ∧
      (dest = f.way ∨ (s.btbEntry f.set dest f.bank).tag = e.tag) ∧
      ((∀ x, x ≠ f.way → (s.btbEntry f.set x f.bank).tag ≠ e.tag) → dest = f.way ∧ t.draws = s.draws) ∧
      ((∃ x, x ≠ f.way ∧ (s.btbEntry f.set x f.bank).tag = e.tag ∧ (s.btbEntry f.set x f.bank).valid = true) →
        dest ≠ f.way ∧ (s.btbEntry f.set dest f.bank).valid = true) ∧
      t.btbTest = s.btbTest ∧ OnlyParts [.btb, .draws] s t := by
  have tag : tr9Tag s.cfg.variant s.btbTest.tr9 = e.tag := by
    rw [← stored, hm]
    rfl
  have same {w : BitVec 2} : w ∈ sameTagWays f s ↔ w ≠ f.way ∧ (s.btbEntry f.set w f.bank).tag = e.tag := by
    rw [mem_sameTagWays, tag]
  obtain ⟨w, hw, n, write, draws⟩ := btbWrite_pmmx (f := f) hm
  refine ⟨_, w, write, fun k => ?_, (mem_writeWays hw).imp_right fun h => (same.mp h).2, fun alone => ?_,
    fun ⟨x, other, holds, valid⟩ => ?_, rfl, ?_⟩
  · rw [← hm, ← stored]
    exact Sparse.get_put _ _ _ _ _
  · have addressed : writeWays f s = [f.way] :=
      writeWays_of_noSameTag (List.eq_nil_iff_forall_not_mem.mpr fun x hx => alone x (same.mp hx).1 (same.mp hx).2)
    rw [addressed] at hw
    rw [draws f.way addressed]
    exact ⟨List.mem_singleton.mp hw, rfl⟩
  · rw [writeWays_of_validSameTag (mem_validSameTagWays.mpr ⟨same.mpr ⟨other, holds⟩, valid⟩)] at hw
    obtain ⟨sameTag, isValid⟩ := mem_validSameTagWays.mp hw
    exact ⟨(same.mp sameTag).1, isValid⟩
  · have put : OnlyParts [.btb] s (btbStore f s w) := onlyParts_advance (putBtbEntry_kept s _ _ _ _) rfl
    exact (put.mono (by decide)).andThen ((useDraws_kept _ n).mono (by decide)) rfl

/-- Settles O47: the write runs on the state with TR11 latched, which has the entries of the state before. -/
theorem btbWritePmmx : Obligations.BtbWritePmmx := by
  intro s btype set bank way e h0 nbp hm hs tag offset valid prediction history target type
  have fits := tr11Fits_pmmx hm hs btype bank
  obtain ⟨t, dest, write, entries, among, alone, other, btbTest, only⟩ :=
    btbWrite_pmmx_stores (f := ⟨1, set, bank, way, btype⟩) (s := s.latchTr11 ⟨1, set, bank, way, btype⟩) hm
      (btbEntryPmmx_eq tag offset valid prediction history target type)
  refine ⟨t, dest, (exec_tr11Write h0 nbp fits way).trans write, entries, among, alone, other, ?_, ?_,
    (only.mono (by decide)).before ((latchTr11_kept s _).mono (by decide)) rfl⟩
  · rw [btbTest, ← hm]
    exact unpackTr11_latched (f := ⟨1, set, bank, way, btype⟩) fits fun _ => by simp
  · rw [btbTest]
    rfl

theorem btbWrite_p {f : Tr11} {s : State} (hp : s.cfg.variant = .p) :
    btbWrite f s =
      if validSameTagWays f s = [] then
        .next ((s.putBtbEntry f.set f.way f.bank (btbEntryP (s.btbEntry f.set f.way f.bank) s)).advance 2)
      else .refused .btbDuplicateTag := by
  rw [btbWrite, hp]

/-- On `P` the valid ways that a write may not repeat the tag of. -/
theorem mem_validSameTagWays_p {f : Tr11} {s : State} (hp : s.cfg.variant = .p) {w : BitVec 2} :
    w ∈ validSameTagWays f s ↔ w ≠ f.way ∧ (s.btbEntry f.set w f.bank).valid = true ∧
      (s.btbEntry f.set w f.bank).tag.toNat = s.btbTest.tr9.toNat / 2 ^ 6 := by
  rw [mem_validSameTagWays, mem_sameTagWays, hp, ← BitVec.toNat_inj, tr9Tag_p_toNat, and_assoc, and_comm (b := _ = _)]

/-- Settles O48: the list of the valid ways with the tag is empty, or the write is refused. -/
theorem btbWriteP : Obligations.BtbWriteP := by
  intro s set way h0 nbp hp
  have fits : tr11Fits s.cfg.variant 0 set 0 = true := by
    rw [hp]
    rfl
  have run := (exec_tr11Write h0 nbp fits way).trans (btbWrite_p hp)
  have duplicate {w : BitVec 2} := mem_validSameTagWays_p (f := ⟨1, set, 0, way, 0⟩)
    (s := s.latchTr11 ⟨1, set, 0, way, 0⟩) hp (w := w)
  refine ⟨fun single => ?_, fun x other valid holds => ?_⟩
  · have free : validSameTagWays ⟨1, set, 0, way, 0⟩ (s.latchTr11 ⟨1, set, 0, way, 0⟩) = [] := by
      refine List.eq_nil_iff_forall_not_mem.mpr fun x hx => ?_
      obtain ⟨other, valid, holds⟩ := duplicate.mp hx
      exact single x other valid holds
    have stored := btbEntry_putBtbEntry (s.latchTr11 ⟨1, set, 0, way, 0⟩) set way 0
      (btbEntryP (s.btbEntry set way 0) (s.latchTr11 ⟨1, set, 0, way, 0⟩))
    refine ⟨_, run.trans (if_pos free), ?_, ?_, congrArg BtbEntry.target stored, congrArg BtbEntry.valid stored,
      fun k hk => ?_, ?_, rfl, ?_⟩
    · exact (congrArg (fun e : BtbEntry => e.tag.toNat) stored).trans (tr9Tag_p_toNat _)
    · exact (congrArg (fun e : BtbEntry => e.history.toNat) stored).trans (tr9History_p_toNat _)
    · refine Sparse.get_put_other _ _ _ ?_
      rwa [latchTr11_cfg, hp]
    · rw [← hp]
      exact unpackTr11_latched (f := ⟨1, set, 0, way, 0⟩) fits fun _ => by simp
    · exact onlyParts_advance (((latchTr11_kept s _).mono (by decide)).trans
        ((putBtbEntry_kept _ _ _ _ _).mono (by decide))) rfl
  · exact run.trans (if_neg (List.ne_nil_of_mem (duplicate.mpr ⟨other, valid, holds⟩)))

/-! ### The reads (rules R255, R256) -/

theorem btbReadData_pmmx {f : Tr11} {s : State} (hm : s.cfg.variant = .pmmx) :
    (btbReadData f s).btbTest =
      ⟨tr9AfterReadData s.btbTest.tr9 (s.btbEntry f.set f.way f.bank), (s.btbEntry f.set f.way f.bank).target,
        tr11WithType s.btbTest.tr11 (s.btbEntry f.set f.way f.bank).btype⟩ := by
  rw [btbReadData, hm]
  rfl

theorem btbReadData_p {f : Tr11} {s : State} (hp : s.cfg.variant = .p) :
    (btbReadData f s).btbTest =
      ⟨tr9AfterReadP s.btbTest.tr9 (s.btbEntry f.set f.way f.bank), (s.btbEntry f.set f.way f.bank).target,
        s.btbTest.tr11⟩ := by
  rw [btbReadData, hp]
  rfl

theorem btbReadData_onlyParts (f g : Tr11) (s : State) : OnlyParts [.btbTest] s (btbReadData f (s.latchTr11 g)) :=
  onlyParts_advance ((latchTr11_kept s g).trans (keptBut_btbTest _ _)) rfl

theorem btbReadTag_onlyParts (f g : Tr11) (s : State) : OnlyParts [.btbTest] s (btbReadTag f (s.latchTr11 g)) :=
  onlyParts_advance ((latchTr11_kept s g).trans (keptBut_btbTest _ _)) rfl

/-- TR9 after a read data on `PMMX`, field by field. -/
theorem tr9AfterReadData_fields (x : Word) (e : BtbEntry) :
    (tr9AfterReadData x e).toNat / 2 ^ 8 = x.toNat / 2 ^ 8 ∧
    (tr9AfterReadData x e).toNat / 2 ^ 6 % 4 = e.offset.toNat ∧
    (tr9AfterReadData x e).getLsbD 5 = x.getLsbD 5 ∧ (tr9AfterReadData x e).getLsbD 4 = e.prediction ∧
    (tr9AfterReadData x e).toNat % 16 = e.history.toNat := by
  have bit {n : Nat} (hn : n < 32) := getLsbD_tr9AfterReadData x e hn
  refine ⟨topField_congr fun n hn high => ?_, field_toNat (k := 6) (m := 2) fun i hi => ?_, bit (by decide),
    bit (by decide), lowField_toNat (m := 4) fun i hi => ?_⟩
  · rw [bit hn, if_pos (.inl high)]
  · rw [bit (by omega), if_neg (by omega), if_pos (by omega), Nat.add_sub_cancel_left]
  · rw [bit (by omega), if_neg (by omega), if_neg (by omega), if_neg (by omega)]

/-- TR9 after a read TAG, field by field. -/
theorem tr9AfterReadTag_fields (x : Word) (e : BtbEntry) :
    (tr9AfterReadTag x e).toNat / 2 ^ 8 = e.tag.toNat % 2 ^ 24 ∧ (tr9AfterReadTag x e).getLsbD 5 = e.valid ∧
    ∀ n, n < 8 → n ≠ 5 → (tr9AfterReadTag x e).getLsbD n = x.getLsbD n := by
  have bit {n : Nat} (hn : n < 32) := getLsbD_tr9AfterReadTag x e hn
  refine ⟨?_, bit (by decide), fun n low other => ?_⟩
  · rw [← BitVec.toNat_setWidth]
    refine topField_toNat rfl fun i hi => ?_
    rw [bit (by omega), if_pos (by omega), Nat.add_sub_cancel_left, BitVec.getLsbD_setWidth, decide_eq_true hi,
      Bool.true_and]
  · rw [bit (by omega), if_neg (by omega), if_neg other]

/-- TR9 after a read on `P`, field by field. -/
theorem tr9AfterReadP_fields (x : Word) (e : BtbEntry) :
    (tr9AfterReadP x e).toNat / 2 ^ 6 = e.tag.toNat ∧ (tr9AfterReadP x e).toNat % 4 = e.history.toNat % 4 := by
  have bit {n : Nat} (hn : n < 32) := getLsbD_tr9AfterReadP x e hn
  refine ⟨topField_toNat rfl fun i hi => ?_, ?_⟩
  · rw [bit (by omega), if_pos (by omega), Nat.add_sub_cancel_left]
  · refine (lowField_toNat (m := 2) (y := e.history.setWidth 2) fun i hi => ?_).trans (BitVec.toNat_setWidth ..)
    rw [bit (by omega), if_neg (by omega), if_neg (by omega), BitVec.getLsbD_setWidth, decide_eq_true hi,
      Bool.true_and]

/-- A read data after TR11 is latched: the latched fields, on `PMMX` with the branch type of the entry. -/
theorem btbReadData_tr11 {s : State} {btype : BitVec 2} {set : BitVec 6} {bank : BitVec 2}
    (fits : tr11Fits s.cfg.variant btype set bank = true) (way : BitVec 2) :
    unpackTr11 s.cfg.variant
        ((btbReadData ⟨2, set, bank, way, btype⟩ (s.latchTr11 ⟨2, set, bank, way, btype⟩)).btbTest.tr11.setWidth 64) =
      ⟨2, set, bank, way, match s.cfg.variant with | .p => 0 | .pmmx => (s.btbEntry set way bank).btype⟩ := by
  have latched := unpackTr11_latched (f := ⟨2, set, bank, way, btype⟩) fits fun _ => by simp
  cases hv : s.cfg.variant with
  | p =>
    rw [hv] at fits latched
    obtain ⟨rfl, -⟩ : btype = 0 ∧ bank = 0 := by simpa [tr11Fits] using fits
    rw [btbReadData_p (s := s.latchTr11 _) hv, latchTr11_btbTest, hv, latched]
  | pmmx =>
    rw [hv] at latched
    rw [btbReadData_pmmx (s := s.latchTr11 _) hv, latchTr11_btbTest, hv, unpackTr11_tr11WithType, latched]
    rfl

theorem btbReadData_tr10 (f : Tr11) (s : State) :
    (btbReadData f s).btbTest.tr10 = (s.btbEntry f.set f.way f.bank).target := by
  cases hv : s.cfg.variant with
  | p => rw [btbReadData_p hv]
  | pmmx => rw [btbReadData_pmmx hv]

/-- Settles O49: the entry addressed is that of the state before, and TR9 after a read is given bit by bit. -/
theorem btbRead : Obligations.BtbRead := by
  rintro s btype set bank way e h0 nbp fits rfl
  refine ⟨⟨_, exec_tr11ReadData h0 nbp fits way, btbReadData_tr10 _ _, btbReadData_onlyParts _ _ _,
    btbReadData_tr11 fits way, fun hm => ?_, fun hp => ?_⟩, fun hm => ?_⟩
  · rw [btbReadData_pmmx (s := s.latchTr11 _) hm]
    exact tr9AfterReadData_fields _ _
  · rw [btbReadData_p (s := s.latchTr11 _) hp]
    exact tr9AfterReadP_fields _ _
  · obtain ⟨tag, valid, kept⟩ := tr9AfterReadTag_fields s.btbTest.tr9 (s.btbEntry set way bank)
    refine ⟨_, exec_tr11ReadTag h0 nbp fits way hm, tag, valid, kept, ?_, rfl, btbReadTag_onlyParts _ _ _⟩
    rw [← hm]
    exact unpackTr11_latched (f := ⟨5, set, bank, way, btype⟩) fits fun hp => by rw [hm] at hp; cases hp

/-! ### The reads after the write (rules R265, R267) -/

/-- The two reads of an entry deliver every bit of the TR9 that it was written from. -/
theorem tr9_of_reads (f : Tr11) (s : State) (x : Word) :
    tr9AfterReadTag (tr9AfterReadData x (btbEntryPmmx f s)) (btbEntryPmmx f s) = s.btbTest.tr9 := by
  apply BitVec.eq_of_getLsbD_eq
  intro n hn
  rw [getLsbD_tr9AfterReadTag _ _ hn, getLsbD_tr9AfterReadData _ _ hn]
  by_cases tag : 8 ≤ n
  · have within : n - 8 < 24 ∧ n - 8 < 26 := by omega
    simp [btbEntryPmmx, tr9Tag, tag, within]
  · have low : n < 8 := by omega
    interval_cases n <;> simp [btbEntryPmmx, tr9History]

/-- A command that leaves TR12 leaves the conditions of the next one as they were: privilege, NBP and the variant. -/
theorem OnlyParts.nextBtbCommand {parts : List Part} {s t : State} (h : OnlyParts parts s t)
    (tr12 : Part.tr12 ∉ Part.core :: parts) (h0 : s.core.cpl = 0) (nbp : BtbTestSet s) :
    t.core.cpl = 0 ∧ BtbTestSet t ∧ t.cfg.variant = s.cfg.variant := by
  obtain ⟨cpl, variant⟩ := h.cpl_variant
  have same : t.tr12 = s.tr12 := h.kept tr12
  rw [BtbTestSet, same]
  exact ⟨cpl.trans h0, nbp, variant⟩

/-- The two read cycles, one after the other, of an entry on `PMMX` (rule R267). -/
theorem exec_readDataThenTag {s : State} (h0 : s.core.cpl = 0) (nbp : BtbTestSet s) (hm : s.cfg.variant = .pmmx)
    {set : BitVec 6} (hs : set.toNat < 16) (bank way : BitVec 2) {e : BtbEntry} (entry : s.btbEntry set way bank = e) :
    ∃ u z, exec (.tr11ReadData 0 set bank way) s = .next u ∧ exec (.tr11ReadTag 0 set bank way) u = .next z ∧
      u.btbTest.tr10 = e.target ∧ u.btbTest.tr11.toNat / 2 ^ 24 % 4 = e.btype.toNat ∧
      z.btbTest.tr9 = tr9AfterReadTag (tr9AfterReadData s.btbTest.tr9 e) e ∧ z.btbTest.tr10 = e.target := by
  subst entry
  have fits {u : State} (hu : u.cfg.variant = .pmmx) := tr11Fits_pmmx hu hs 0 bank
  have only := btbReadData_onlyParts ⟨2, set, bank, way, 0⟩ ⟨2, set, bank, way, 0⟩ s
  obtain ⟨h0', nbp', variant⟩ := only.nextBtbCommand (by decide) h0 nbp
  have hm' := variant.trans hm
  have data := btbReadData_pmmx (f := ⟨2, set, bank, way, 0⟩) (s := s.latchTr11 ⟨2, set, bank, way, 0⟩) hm
  refine ⟨_, _, exec_tr11ReadData h0 nbp (fits hm) way, exec_tr11ReadTag h0' nbp' (fits hm') way hm',
    btbReadData_tr10 _ _, ?_, ?_, btbReadData_tr10 _ _⟩
  · rw [data]
    refine field_toNat (k := 24) (m := 2) fun i hi => ?_
    rw [getLsbD_tr11WithType _ _ (by omega), if_pos (by omega), Nat.add_sub_cancel_left]
    rfl
  · exact congrArg (fun x : BtbTest => tr9AfterReadTag x.tr9 (s.btbEntry set way bank)) data

/-- Settles O50: the write goes to the addressed way, where both reads find the entry it stored. -/
theorem btbWriteThenRead : Obligations.BtbWriteThenRead := by
  intro s btype set bank way x y h0 nbp hm hs single
  obtain ⟨t, dest, write, entries, -, alone, -, -, only⟩ :=
    btbWrite_pmmx_stores (f := ⟨1, set, bank, way, btype⟩) (s := s.latchTr11 ⟨1, set, bank, way, btype⟩) hm rfl
  obtain ⟨rfl, -⟩ := alone fun z other tag => single z other ((congrArg BitVec.toNat tag).trans (tr9Tag_pmmx_toNat _))
  obtain ⟨h0', nbp', variant⟩ := only.nextBtbCommand (by decide) h0 nbp
  have hm' := variant.trans hm
  have entry : t.btbEntry set dest bank = btbEntryPmmx ⟨1, set, bank, dest, btype⟩ s := by
    rw [State.btbEntry, hm', entries]
    exact if_pos rfl
  obtain ⟨u, z, readData, readTag, tr10, type, tr9, tr10'⟩ :=
    exec_readDataThenTag (s := t.withBtbTest { t.btbTest with tr9 := x, tr10 := y }) h0' nbp' hm' hs bank dest entry
  exact ⟨t, u, z, (exec_tr11Write h0 nbp (tr11Fits_pmmx hm hs btype bank) dest).trans write, readData, tr10, type,
    readTag, tr9.trans (tr9_of_reads _ s x), tr10'⟩

end Sys2Proof.Machine

/-!
PROOF. Parity reversal: WRMSR to TR1, and the testability read that reports what a testability write stored under a
reversed tag parity (O25, O39).
-/

namespace Sys2Proof.Machine

/-! ### WRMSR to TR1 (rule R282) -/

/-- A bit of `EDX:EAX` below 32 is a bit of EAX (rule R102 a). -/
theorem getLsbD_edxEax_low (c : Core) {n : Nat} (hn : n < 32) : c.edxEax.getLsbD n = c.eax.getLsbD n := by
  rw [← lowHalf_edxEax c, getLsbD_lowHalf _ hn]

/-- The reversal bits TR1 leaves stand where they are written, bits 1 to 13 (rules R30, R282). -/
theorem writeTr1_bit (v : Quad) (s : State) {n : Nat} (low : 1 ≤ n) (high : n ≤ 13) :
    (writeTr1 v s).parity.bit n = v.getLsbD n := by
  have position : 1 + (n - 1) = n := by omega
  have inside : n - 1 < 13 := by omega
  rw [← congrArg v.getLsbD position]
  simp [writeTr1, Parity.bit, inside]

/-- Settles O25: the value written has no one above bit 13, so the write completes, and the parity state it leaves is
read off bit by bit. -/
theorem wrmsrTr1 : Obligations.WrmsrTr1 := by
  intro s h0 lt
  rw [edxEaxNat_eq] at lt
  have defined : ∀ n < 14, (0x3FFF : Quad).getLsbD n = true := by decide
  have eax {n : Nat} (hn : n < 32) := getLsbD_edxEax_low s.core hn
  refine ⟨_, writeMsr_completes (pre := fun _ => true) (effect := writeTr1) h0 (noReservedOne_of_lt defined lt) rfl,
    eax (by decide), fun n low high => ?_, eax (by decide), ?_, onlyParts_advance (keptBut_parity s _) rfl⟩
  · exact (writeTr1_bit _ s low high).trans (eax (by omega))
  · rw [← eax (by decide), Bool.and_comm]
    rfl

/-! ### The read after a write under reversed tag parity (rules R283, R287, R289) -/

/-- The line a testability write of the code cache stores has the parity of its tag reversed by IT (rule R283). -/
theorem codeWrite_badTag {s : State} (h0 : s.core.cpl = 0) (test : CacheTestSet s) {entry : BitVec 2}
    (hentry : s.cfg.variant = .p → entry.toNat < 2) (buffer : BitVec 3) (set : BitVec 7) (wb : Bool) :
    ∃ t, exec (.tr5WriteCode buffer set entry wb) s = .next t ∧
      (t.caches.codeLine (set.toNat * 4 + entry.toNat)).badTag = s.parity.bit 2 ∧
      OnlyParts [.cacheTest, .caches] s t := by
  refine ⟨_, tr5Access_runs (f := ⟨1, buffer, set, entry, false, wb⟩) h0 test hentry (writeCodeLine _), ?_,
    onlyParts_advance ⟨rfl, fun p hp => by cases p <;> simp_all [Part.kept]⟩ rfl⟩
  rw [← tr5Key_eq (f := ⟨1, buffer, set, entry, false, wb⟩) (s := s.latchTr5 ⟨1, buffer, set, entry, false, wb⟩) hentry]
  exact congrArg CodeLine.badTag (codeLine_putCode_same s.caches _ _)

/-- The line a testability write of the data cache stores has the parity of its tag reversed by DT (rule R283). -/
theorem dataWrite_badTag {s : State} (h0 : s.core.cpl = 0) (test : CacheTestSet s) {entry : BitVec 2}
    (hentry : s.cfg.variant = .p → entry.toNat < 2) (buffer : BitVec 3) (set : BitVec 7) (wb : Bool) :
    ∃ t, exec (.tr5WriteData buffer set entry wb) s = .next t ∧
      (t.caches.dataLine (set.toNat * 4 + entry.toNat)).badTag = s.parity.bit 9 ∧
      OnlyParts [.cacheTest, .caches] s t := by
  refine ⟨_, tr5Access_runs (f := ⟨1, buffer, set, entry, true, wb⟩) h0 test hentry (writeDataLine _), ?_,
    onlyParts_advance ⟨rfl, fun p hp => by cases p <;> simp_all [Part.kept]⟩ rfl⟩
  rw [← tr5Key_eq (f := ⟨1, buffer, set, entry, true, wb⟩) (s := s.latchTr5 ⟨1, buffer, set, entry, true, wb⟩) hentry]
  exact congrArg DataLine.badTag (dataLine_putData_same s.caches _ _)

/-- A write that leaves parity, trace and run, then a read that reports one error and leaves the run: the two report it
once (rule R287). -/
theorem reportedOnce {s t u : State} {parts : List Part} (write : OnlyParts [.cacheTest, .caches] s t)
    (pes : u.parity = { t.parity with pes := true }) (trace : u.trace = .ierr :: t.trace) (read : OnlyParts parts t u)
    (run : Part.run ∉ Part.core :: parts) :
    t.parity = s.parity ∧ u.parity.pes = true ∧ u.trace = .ierr :: s.trace ∧ u.run = s.run := by
  have traceKept : t.trace = s.trace := write.kept (p := .trace) (by decide)
  have runKept : t.run = s.run := write.kept (p := .run) (by decide)
  exact ⟨write.kept (p := .parity) (by decide), by rw [pes], by rw [trace, traceKept], (read.kept run).trans runKept⟩

/-- Settles O39: the read meets the line the write stored, whose tag has bad parity, and with NS = 1 it goes on. -/
theorem reversedParityIsDetected : Obligations.ReversedParityIsDetected := by
  intro s k₀ k set entry wb h0 test hentry ns
  have nsAfter {t : State} (write : OnlyParts [.cacheTest, .caches] s t) : t.parity.bit 1 = true :=
    (congrArg (·.bit 1) (write.kept (p := .parity) (by decide))).trans ns
  refine ⟨fun it => ?_, fun dt => ?_⟩
  · obtain ⟨t, write, badTag, only⟩ := codeWrite_badTag h0 test hentry k₀ set wb
    obtain ⟨h0', test', hentry'⟩ := only.nextCommand h0 test hentry
    obtain ⟨u, read, pes, trace, on, -⟩ :=
      (badParityIsReported t k set entry wb _ h0' test' hentry' rfl).1 (.inl (badTag.trans it))
    exact ⟨t, u, write, read, reportedOnce only pes trace (on (nsAfter only)).2 (by decide)⟩
  · obtain ⟨t, write, badTag, only⟩ := dataWrite_badTag h0 test hentry k₀ set wb
    obtain ⟨h0', test', hentry'⟩ := only.nextCommand h0 test hentry
    obtain ⟨u, read, pes, trace, on, -⟩ :=
      (badParityIsReported t k set entry wb _ h0' test' hentry' rfl).2 (.inl (badTag.trans dt))
    exact ⟨t, u, write, read, reportedOnce only pes trace (on (nsAfter only)).2 (by decide)⟩

end Sys2Proof.Machine

/-!
PROOF. A pending microcode parity error is reported once, by a step that reads the microcode, and every other turn but
RESET's leaves it pending (O59).
-/

namespace Sys2Proof.Machine

/-! ### A pending error (rule R286) -/

/-- A microcode parity error is pending (rule R286). -/
def McPending (s : State) : Prop := s.parity.mcBadPending = true

/-- Every next state of an outcome has the error pending. -/
def LeavesPending (r : Result) : Prop := ∀ t, r = .next t → McPending t

theorem leavesPending_next {t : State} (h : McPending t) : LeavesPending (.next t) := by
  rintro _ ⟨⟩
  exact h

theorem leavesPending_fault (f : Fault) : LeavesPending (.fault f) := by
  rintro _ ⟨⟩

theorem leavesPending_refused (x : Refusal) : LeavesPending (.refused x) := by
  rintro _ ⟨⟩

theorem McPending.of_parity {s t : State} (h : McPending s) (parity : t.parity = s.parity) : McPending t := by
  rw [McPending, parity]
  exact h

theorem McPending.of_kept {parts : List Part} {s t : State} (h : McPending s) (kept : KeptBut parts s t)
    (unnamed : Part.parity ∉ parts) : McPending t := h.of_parity (kept.2 .parity unnamed)

/-- A report sets PES and leaves the other parity state (rule R287). -/
theorem McPending.parityError {s : State} (h : McPending s) : McPending (parityError s) := by
  rw [McPending, parityError_parity]
  exact h

theorem McPending.checkParity {bad : Bool} {s : State} {k : State → State} (h : McPending s)
    (hk : ∀ u, McPending u → McPending (k u)) : McPending (checkParity bad s k) := by
  rcases checkParity_cases bad s k with ⟨-, e⟩ | ⟨-, -, e⟩ | ⟨-, -, e⟩ <;> rw [e]
  · exact hk s h
  · exact hk _ h.parityError
  · exact h.parityError

theorem McPending.useDraws {s : State} (h : McPending s) (n : Nat) : McPending (s.useDraws n) := h.of_parity rfl

theorem McPending.invalidateDataLine {s : State} (h : McPending s) (k : Nat) (set : BitVec 7) :
    McPending (invalidateDataLine k set s) := h.of_kept (invalidateDataLine_kept k set s) (by decide)

/-! ### Instructions -/

theorem leavesPending_privileged {s : State} {r : Result} (h : LeavesPending r) : LeavesPending (privileged s r) :=
  fun t ht => h t (privileged_next.mp ht).2

theorem leavesPending_reservedAccess (n : Word) (w : Bool) (s : State) : LeavesPending (reservedAccess n w s) :=
  fun _ ht => absurd ht reservedAccess_next

theorem leavesPending_writeMsr {m : Msr} {pre : State → Bool} {effect : Quad → State → State} {s : State}
    (h : McPending (effect s.core.edxEax s)) : LeavesPending (writeMsr m pre effect s) := by
  intro t ht
  obtain ⟨-, -, -, rfl⟩ := writeMsr_next.mp ht
  exact h

theorem leavesPending_tr5Access {f : Tr5} {command : State → State} {s : State} (h : McPending s)
    (hc : ∀ u, McPending u → McPending (command u)) : LeavesPending (tr5Access f command s) := by
  intro t ht
  obtain ⟨-, -, -, rfl⟩ := tr5Access_next.mp ht
  exact hc _ h

theorem leavesPending_tr6Access {f : Tr6} {command : State → Result} {s : State} (h : McPending s)
    (hc : ∀ u, McPending u → LeavesPending (command u)) : LeavesPending (tr6Access f command s) :=
  fun t ht => hc (s.withTlbTest { s.tlbTest with tr6 := f }) h t (tr6Access_next.mp ht).2.2

theorem leavesPending_tr11Access {f : Tr11} {command : State → Result} {s : State} (h : McPending s)
    (hc : ∀ u, McPending u → LeavesPending (command u)) : LeavesPending (tr11Access f command s) := by
  intro t ht
  obtain ⟨-, -, -, done⟩ := tr11Access_next.mp ht
  exact hc (s.latchTr11 f) h t done

/-- A TLB search reports at most the parity error of the entry it finds (rules R226, R227, R236). -/
theorem leavesPending_tlbRead {found : TlbSearch} {onMiss : State → Tr6} {onHit : TlbEntry → State → Tr6} {s : State}
    (h : McPending s) : LeavesPending (tlbRead found onMiss onHit s) := by
  cases found with
  | double => exact leavesPending_refused _
  | miss => exact leavesPending_next (h.of_parity rfl)
  | hit n k =>
    refine leavesPending_next (McPending.useDraws (h.checkParity fun _ hu => ?_) 10)
    exact hu.of_parity rfl

theorem leavesPending_btbWrite {f : Tr11} {s : State} (h : McPending s) : LeavesPending (btbWrite f s) := by
  unfold btbWrite
  split
  · split <;> exact leavesPending_next (h.of_parity rfl)
  · split
    · exact leavesPending_next (h.of_parity rfl)
    · exact leavesPending_refused _

theorem leavesPending_rdpmcAllowed {s : State} {r : Result} (h : LeavesPending r) :
    LeavesPending (rdpmcAllowed s r) := by
  unfold rdpmcAllowed
  split
  · exact leavesPending_fault _
  · split
    · exact leavesPending_fault _
    · exact h

theorem McPending.readCodeLine {s : State} (h : McPending s) (f : Tr5) : McPending (readCodeLine f s) :=
  McPending.useDraws (h.checkParity (k := deliverCodeLine f) fun _ hu => hu.of_parity rfl) 12

theorem McPending.readDataLine {s : State} (h : McPending s) (f : Tr5) : McPending (readDataLine f s) :=
  McPending.useDraws (h.checkParity (k := deliverDataLine f) fun _ hu => hu.of_parity rfl) 9

/-- Every command of TR5 (rules R184, R188 to R197): a read may report an error, and none other touches the parity
state. -/
theorem leavesPending_tr5Meaning (f : Tr5) {s : State} (h : McPending s) : LeavesPending (tr5Meaning f s) := by
  unfold tr5Meaning
  split_ifs
  · exact leavesPending_tr5Access h fun _ hu => hu.of_parity rfl
  · exact leavesPending_tr5Access h fun _ hu => hu.of_parity rfl
  · exact leavesPending_tr5Access h fun _ hu => hu.of_parity rfl
  · exact leavesPending_tr5Access h fun _ hu => hu.readDataLine _
  · exact leavesPending_tr5Access h fun _ hu => hu.readCodeLine _
  · exact leavesPending_tr5Access h fun _ hu =>
      ((hu.invalidateDataLine _ _).of_kept (looseFill_kept _) (by decide)).of_parity rfl
  · exact leavesPending_tr5Access h fun _ hu => hu.of_parity rfl
  · exact leavesPending_tr5Access h fun _ hu => hu.of_parity rfl

/-- Every command of TR6 (rules R224 to R227). -/
theorem leavesPending_tr6Meaning (f : Tr6) {s : State} (h : McPending s) : LeavesPending (tr6Meaning f s) := by
  have stored {u t : State} (hu : McPending t) : LeavesPending (hitBitSet u (.next t)) :=
    fun t' ht => leavesPending_next hu t' (hitBitSet_next.mp ht).2
  unfold tr6Meaning
  split_ifs
  · exact leavesPending_tr6Access h fun _ hu => leavesPending_tlbRead hu
  · exact leavesPending_tr6Access h fun _ hu => leavesPending_tlbRead hu
  · exact leavesPending_tr6Access h fun _ hu => stored (hu.of_parity rfl)
  · exact leavesPending_tr6Access h fun _ hu => stored (hu.of_parity rfl)

/-- Every command of TR11 (rules R253 to R258). -/
theorem leavesPending_tr11Meaning (f : Tr11) {s : State} (h : McPending s) : LeavesPending (tr11Meaning f s) := by
  unfold tr11Meaning
  split_ifs
  · exact leavesPending_tr11Access h fun _ hu => leavesPending_next (hu.of_parity rfl)
  · exact leavesPending_tr11Access h fun _ hu => leavesPending_btbWrite hu
  · exact leavesPending_tr11Access h fun _ hu => leavesPending_next (hu.of_parity rfl)
  · exact leavesPending_tr11Access h fun _ hu => leavesPending_next (hu.of_parity rfl)
  · exact leavesPending_tr11Access h fun _ hu => leavesPending_next (hu.of_parity rfl)
  all_goals exact leavesPending_tr11Access h fun _ _ => leavesPending_refused _

/-- Of the writes only that of TR1 touches the pending error, and it can only arm one (rules R282, R286). -/
theorem leavesPending_wrmsrOf (m : Msr) {s : State} (h : McPending s) : LeavesPending (wrmsrOf s m) := by
  have command {m : Msr} {v : Quad} {r : Result} (hr : LeavesPending r) :
      LeavesPending (privileged s (noReservedOnes m v s r)) :=
    leavesPending_privileged fun t ht => hr t (noReservedOnes_next.mp ht).2
  cases m with
  | mca | mct => exact leavesPending_privileged (leavesPending_refused _)
  | tr1 => exact leavesPending_writeMsr (pre := fun _ => true) (effect := writeTr1) ((Bool.or_eq_true _ _).mpr (.inl h))
  | tr2 =>
    rw [wrmsrOf, execWrmsrTr2]
    split
    · exact leavesPending_writeMsr (effect := writeTr2) (h.of_parity rfl)
    · exact leavesPending_privileged (leavesPending_reservedAccess _ _ s)
  | tr5 => exact command (leavesPending_tr5Meaning _ h)
  | tr6 => exact command (leavesPending_tr6Meaning _ h)
  | tr11 => exact command (leavesPending_tr11Meaning _ h)
  | tr3 | tr4 | tr7 | tr9 | tr10 | tr12 | tsc | cesr | ctr0 | ctr1 =>
    simp only [wrmsrOf, execWrmsrTr3, execWrmsrTr4, execWrmsrTr7, execWrmsrTr9, execWrmsrTr10, execWrmsrTr12,
      execWrmsrTsc, execWrmsrCesr, execWrmsrCtr0, execWrmsrCtr1]
    exact leavesPending_writeMsr (h.of_parity rfl)

theorem leavesPending_execWrmsr {s : State} (h : McPending s) : LeavesPending (execWrmsr s) := by
  refine leavesPending_privileged ?_
  split
  · exact leavesPending_wrmsrOf _ h
  · exact leavesPending_reservedAccess _ _ s

/-- A read that completes changes `EDX:EAX` and the free values only (rule R161). -/
theorem leavesPending_execRdmsr {s : State} (h : McPending s) : LeavesPending (execRdmsr s) := by
  intro t ht
  obtain ⟨h0, done⟩ := privileged_next.mp ht
  split at done
  · rename_i m hm
    obtain ⟨u, row, -, kept, -⟩ := (rdmsrCompletes s m h0).2 hm
    cases (show execRdmsr s = .next u from row).symm.trans ht
    exact h.of_kept kept (by decide)
  · exact absurd done reservedAccess_next

/-- The instructions that bytes alone name (rules R131, R132, R134). -/
def isLevel1 : Instr → Bool
  | .wrmsr | .rdtsc | .rdmsr | .rdpmc | .rdpmcOnP | .cpuid => true
  | .movImm .. | .orEaxImm _ | .andEaxImm _ | .xorSame _ | .hlt => true
  | _ => false

/-- What is decoded is such an instruction. -/
def DecodesLevel1 (d : Decoded) : Prop := ∀ i, d = .ok i → isLevel1 i = true

theorem decodesLevel1_ok {i : Instr} (h : isLevel1 i = true) : DecodesLevel1 (.ok i) := by
  rintro _ ⟨⟩
  exact h

theorem decodesLevel1_error (e : DecodeError) : DecodesLevel1 (.error e) := by
  rintro _ ⟨⟩

theorem decodesLevel1_ite {c : Prop} [Decidable c] {d e : Decoded} (hd : DecodesLevel1 d) (he : DecodesLevel1 e) :
    DecodesLevel1 (if c then d else e) := by
  split
  · exact hd
  · exact he

theorem decodesLevel1_second (v : Variant) (b : Byte) : DecodesLevel1 (decodeSecond v b) := by
  unfold decodeSecond
  iterate 3 refine decodesLevel1_ite (decodesLevel1_ok rfl) ?_
  refine decodesLevel1_ite (decodesLevel1_ok ?_) ?_
  · cases v <;> rfl
  · exact decodesLevel1_ite (decodesLevel1_ok rfl) (decodesLevel1_error _)

theorem decodesLevel1_immediate {make : Word → Instr} (h : ∀ w, isLevel1 (make w) = true) (bs : List Byte) :
    DecodesLevel1 (decodeImmediate make bs) := by
  unfold decodeImmediate
  split
  · exact decodesLevel1_ok (h _)
  · exact decodesLevel1_error _

/-- A row that needs ECX or a value as well is never fetched. -/
theorem decodesLevel1_bytes (v : Variant) (bs : List Byte) : DecodesLevel1 (decodeBytes v bs) := by
  cases bs with
  | nil => exact decodesLevel1_error _
  | cons b rest =>
    unfold decodeBytes
    have movImm (r : Reg) := decodesLevel1_immediate (make := .movImm r) (fun _ => rfl) rest
    have orEax := decodesLevel1_immediate (make := .orEaxImm) (fun _ => rfl) rest
    have andEax := decodesLevel1_immediate (make := .andEaxImm) (fun _ => rfl) rest
    refine decodesLevel1_ite ?second (decodesLevel1_ite (movImm .eax) (decodesLevel1_ite (movImm .ecx)
      (decodesLevel1_ite (movImm .edx) (decodesLevel1_ite (decodesLevel1_error _) (decodesLevel1_ite orEax
        (decodesLevel1_ite andEax (decodesLevel1_ite ?xor
          (decodesLevel1_ite (decodesLevel1_ok rfl)
            (decodesLevel1_ite (decodesLevel1_error _) (decodesLevel1_error _))))))))))
    case second =>
      cases rest with
      | nil => exact decodesLevel1_error _
      | cons b1 _ => exact decodesLevel1_second v b1
    case xor =>
      cases rest with
      | nil => exact decodesLevel1_error _
      | cons m _ =>
        dsimp only
        iterate 3 refine decodesLevel1_ite (decodesLevel1_ok rfl) ?_
        exact decodesLevel1_error _

/-- No instruction that a step fetches ends a pending error. -/
theorem leavesPending_exec {i : Instr} (level : isLevel1 i = true) {s : State} (h : McPending s) :
    LeavesPending (exec i s) := by
  cases i with
  | wrmsr => exact leavesPending_execWrmsr h
  | rdmsr => exact leavesPending_execRdmsr h
  | rdtsc =>
    show LeavesPending (execRdtsc s)
    unfold execRdtsc
    split
    · exact leavesPending_fault _
    · exact leavesPending_next (h.of_parity rfl)
  | rdpmc =>
    show LeavesPending (execRdpmc s)
    unfold execRdpmc
    split_ifs
    · exact leavesPending_rdpmcAllowed (leavesPending_next (h.of_parity rfl))
    · exact leavesPending_rdpmcAllowed (leavesPending_next (h.of_parity rfl))
    · exact leavesPending_rdpmcAllowed (leavesPending_fault _)
  | rdpmcOnP =>
    show LeavesPending (execRdpmcOnP s)
    unfold execRdpmcOnP
    split
    · exact leavesPending_fault _
    · exact leavesPending_refused _
  | cpuid =>
    show LeavesPending (execCpuid s)
    unfold execCpuid
    split
    · exact leavesPending_next (h.of_parity rfl)
    · exact leavesPending_refused _
  | movImm | orEaxImm | andEaxImm | xorSame => exact leavesPending_next (h.of_parity rfl)
  | hlt => exact leavesPending_privileged (leavesPending_next (h.of_parity rfl))
  | _ => cases level

/-! ### Turns -/

/-- Lines given up are each checked and at most reported (rules R110, R284). -/
theorem McPending.giveUpDataLines {s : State} (h : McPending s) (set : BitVec 7) (keys : List Nat) :
    McPending (giveUpDataLines set id keys s) := by
  induction keys generalizing s with
  | nil => exact h
  | cons k keys ih => exact h.checkParity fun u hu => ih (hu.invalidateDataLine k set)

theorem McPending.invalidateCodeLines {s : State} (h : McPending s) (keys : List Nat) :
    McPending (keys.foldl (fun u k => invalidateCodeLine k u) s) := by
  obtain ⟨c, e, -⟩ := invalidateCodeLines_eq keys s
  rw [e]
  exact h.of_parity rfl

theorem McPending.snoopCode {s : State} (h : McPending s) (a : Word) {rest : State → State}
    (hr : ∀ u, McPending u → McPending (rest u)) : McPending (snoopCode a rest s) :=
  h.checkParity fun _ hu => hr _ (hu.invalidateCodeLines (codeHits a s))

theorem leavesPending_codeFetchMove (a : Word) {s : State} (h : McPending s) : LeavesPending (codeFetchMove a s) := by
  unfold codeFetchMove
  split
  · exact leavesPending_next ((h.giveUpDataLines _ _).useDraws 1)
  · exact leavesPending_next (McPending.useDraws (h.checkParity fun _ hu => hu) 1)
  · exact leavesPending_refused _

theorem leavesPending_afterCodeAccess (a : Word) {k : State → Result} {s : State} (h : McPending s)
    (hk : ∀ u, McPending u → LeavesPending (k u)) : LeavesPending (afterCodeAccess a k s) := by
  unfold afterCodeAccess
  split
  · rename_i t accessed
    have left := leavesPending_codeFetchMove _ h t accessed
    split
    · exact leavesPending_next (left.of_parity rfl)
    · exact hk t left
  · exact leavesPending_fault _
  · exact leavesPending_refused _

theorem leavesPending_fetched (n : Nat) {k : State → Result} {s : State} (h : McPending s)
    (hk : ∀ u, McPending u → LeavesPending (k u)) : LeavesPending (fetched n k s) := by
  refine leavesPending_afterCodeAccess _ h fun u hu => ?_
  split
  · exact hk u hu
  · exact leavesPending_afterCodeAccess _ hu hk

/-- A load of a register by the IA-32 core, between the clocks of its step (rule R325). -/
theorem McPending.executed {effect : State → State} {s : State} (h : McPending s)
    (kept : ∀ u, (effect u).parity = u.parity) : McPending (executed effect s) :=
  ((h.of_kept (beforeInstruction_kept s) (by decide)).of_parity (kept _)).of_kept
    (afterInstruction_kept s.draws _) (by decide)

theorem leavesPending_executeInstruction {i : Instr} (level : isLevel1 i = true) {s : State} (h : McPending s) :
    LeavesPending (executeInstruction i s) := by
  unfold executeInstruction
  split
  · rename_i t executed
    have left := leavesPending_exec level (h.of_kept (beforeInstruction_kept s) (by decide)) t executed
    exact leavesPending_next (left.of_kept (afterInstruction_kept s.draws t) (by decide))
  · exact leavesPending_fault _
  · exact leavesPending_refused _

theorem leavesPending_coreTurn {s : State} (h : McPending s) : LeavesPending (coreTurn s) := by
  unfold coreTurn runInstruction
  split
  · exact leavesPending_fault _
  · exact leavesPending_next (h.of_parity rfl)
  · split
    · exact leavesPending_refused _
    · rename_i i decoded
      exact leavesPending_fetched _ h fun _ => leavesPending_executeInstruction (decodesLevel1_bytes _ _ i decoded)

theorem leavesPending_dataReadMove (a : Word) {s : State} (h : McPending s) : LeavesPending (dataReadMove a s) := by
  unfold dataReadMove
  split
  · exact leavesPending_next ((h.snoopCode a (rest := disturbFill) fun _ hu => hu.of_parity rfl).useDraws 17)
  · exact leavesPending_next (McPending.useDraws (h.checkParity (k := disturbFill) fun _ hu => hu.of_parity rfl) 17)
  · exact leavesPending_refused _

theorem leavesPending_dataWriteMove (a : Word) (b : Byte) (line : Mesi) (reachesMemory : Bool) {s : State}
    (h : McPending s) : LeavesPending (dataWriteMove a b line reachesMemory s) := by
  have store (u : State) (hu : McPending u) :
      McPending (if reachesMemory then u.withMem (writeByte u.mem a.toNat b) else u) := by
    split
    · exact hu.of_parity rfl
    · exact hu
  unfold dataWriteMove
  dsimp only
  split
  · exact leavesPending_next (h.snoopCode a store)
  · refine leavesPending_next (h.checkParity fun u hu => ?_)
    exact (store u hu).of_parity rfl
  · exact leavesPending_refused _

/-- FLUSH# checks each modified line and at most reports (rules R284, R473). -/
theorem McPending.writebackAll {s : State} (h : McPending s) (lines : Sparse DataLine) :
    McPending (writebackAll afterWriteback lines s) := by
  induction lines generalizing s with
  | nil =>
    have kept : (afterWriteback s).parity = s.parity := rfl
    exact h.of_parity kept
  | cons p lines ih =>
    unfold Machine.writebackAll
    split
    · exact h.checkParity fun u hu => ih (hu.of_parity (writeback_parity p.2 _ u))
    · exact ih h

theorem leavesPending_tlbLookupMove (n : TlbName) (la : BitVec 20) {s : State} (h : McPending s) :
    LeavesPending (tlbLookupMove n la s) := by
  unfold tlbLookupMove lookupTlb
  dsimp only
  split
  · split
    · exact leavesPending_next h
    · refine leavesPending_next (McPending.checkParity ?_ fun _ hu => hu)
      exact h.of_parity rfl
    · exact leavesPending_refused _
  · exact leavesPending_next h

theorem leavesPending_machineCheckMove (addr type : Quad) {s : State} (h : McPending s) :
    LeavesPending (machineCheckMove addr type s) := by
  unfold machineCheckMove
  dsimp only
  split
  · exact leavesPending_fault _
  · exact leavesPending_next (h.of_parity rfl)

/-- Every move of an agent but RESET, which ends a pending error (log 27). -/
theorem leavesPending_agentMove {a : Agent} (ha : a ≠ .reset) {s : State} (h : McPending s) :
    LeavesPending (agentMove a s) := by
  have either {c : Prop} [Decidable c] {t u : State} (ht : McPending t) (hu : McPending u) :
      LeavesPending (.next (if c then t else u)) := by
    split
    · exact leavesPending_next ht
    · exact leavesPending_next hu
  cases a with
  | reset => exact absurd rfl ha
  | flush => exact leavesPending_next ((h.writebackAll s.caches.dcache).useDraws 20)
  | machineCheck addr type => exact leavesPending_machineCheckMove addr type h
  | loadCr3 | loadCr0 | loadCr4 => exact leavesPending_privileged (leavesPending_next (h.executed fun _ => rfl))
  | loadDr | changeCpl => exact leavesPending_next (h.executed fun _ => rfl)
  | clocks | memoryWrite | touchCode | touchData => exact leavesPending_next (h.of_parity rfl)
  | dataRead a => exact leavesPending_dataReadMove a h
  | dataWrite a b line reachesMemory => exact leavesPending_dataWriteMove a b line reachesMemory h
  | codeFetch a => exact leavesPending_codeFetchMove a h
  | tlbLookup n la => exact leavesPending_tlbLookupMove n la h
  | fillCode | btbAllocate | btbRelease | tlbFill => exact either (h.of_parity rfl) h
  | evictCode => exact either h (h.of_parity rfl)
  | fillData => exact either (h.checkParity fun _ hu => (hu.invalidateDataLine _ _).of_parity rfl) h
  | evictData => exact either h (h.checkParity fun _ hu => hu.invalidateDataLine _ _)
  | repairEndBits set way bits =>
    have repaired : (repairMove set way bits s).parity = s.parity := by
      unfold repairMove
      dsimp only
      split <;> rfl
    exact leavesPending_next (h.of_parity repaired)
  | takenBranch source target =>
    have traced : (takenBranchMove source target s).parity = s.parity := by
      unfold takenBranchMove
      split_ifs <;> rfl
    exact leavesPending_next (h.of_parity traced)

theorem leavesPending_takeTurn {turn : Turn} (hturn : turn ≠ .agent .reset) {s : State} (h : McPending s) :
    LeavesPending (takeTurn turn s) := by
  cases turn with
  | core => exact leavesPending_coreTurn h
  | agent a =>
    intro t ht
    have move := leavesPending_agentMove (a := a) (fun reset => hturn (reset ▸ rfl)) h
    cases moved : agentMove a s with
    | next u =>
      simp only [takeTurn, moved, drained] at ht
      cases ht
      exact (move u moved).of_parity rfl
    | fault f => simp [takeTurn, moved, drained] at ht
    | refused x => simp [takeTurn, moved, drained] at ht

/-! ### The report (rules R286, R287) -/

theorem idleClocks_kept (s : State) : KeptBut [.perf, .occurred, .draws] s (idleClocks s) :=
  ⟨rfl, fun p hp => by cases p <;> simp_all [Part.kept, idleClocks]⟩

/-- The state in which a microcode read has reported the pending error. -/
def mcReported (s : State) : State :=
  (parityError (s.withParity { s.parity with mcBadPending := false })).useDraws 1

theorem mcReported_parity (s : State) :
    (mcReported s).parity = { s.parity with pes := true, mcBadPending := false } := parityError_parity _

theorem mcReported_trace (s : State) : (mcReported s).trace = .ierr :: s.trace := parityError_trace _

theorem mcReported_kept (s : State) : KeptBut [.parity, .run, .trace, .draws] s (mcReported s) :=
  ((keptBut_parity s _).mono (by decide)).trans
    (((parityError_kept _).mono (by decide)).trans ((useDraws_kept _ 1).mono (by decide)))

/-- With NS = 1 the run goes on. -/
theorem mcReported_kept_ns {s : State} (ns : s.parity.bit 1 = true) :
    KeptBut [.parity, .trace, .draws] s (mcReported s) := by
  have ns : (s.withParity { s.parity with mcBadPending := false }).parity.ns = true := ns
  exact ((keptBut_parity s _).mono (by decide)).trans
    (((parityError_kept_ns ns).mono (by decide)).trans ((useDraws_kept _ 1).mono (by decide)))

theorem mcReported_shutdown {s : State} (ns : s.parity.bit 1 = false) : (mcReported s).run = .shutdown := by
  have ns : (s.withParity { s.parity with mcBadPending := false }).parity.ns = false := ns
  exact (parityError_run _).trans (if_neg (by rw [ns]; exact Bool.false_ne_true))

/-- Without a pending error the step is its turn. -/
theorem step_eq_turn {s : State} (hrun : s.run ≠ .shutdown) (hturn : s.nextTurn ≠ .agent .reset)
    (good : s.parity.mcBadPending = false) : step s = takeTurn s.nextTurn s.turnTaken := by
  rw [step_turn hturn, if_neg hrun]
  rcases afterMicrocodeCheck_cases (takeTurn s.nextTurn) s.turnTaken hrun with ⟨-, e⟩ | ⟨pending, -⟩ | ⟨pending, -⟩
  · exact e
  · exact absurd (good.symm.trans pending) (by decide)
  · exact absurd (good.symm.trans pending) (by decide)

/-- A pending error that is not read stays pending through the turn of the step. -/
theorem step_unread {s : State} (hrun : s.run ≠ .shutdown) (hturn : s.nextTurn ≠ .agent .reset)
    (pending : s.parity.mcBadPending = true) (unread : Config.microcodeRead s.draws = false) :
    step s = takeTurn s.nextTurn (s.turnTaken.useDraws 1) ∧ LeavesPending (step s) := by
  have turn : step s = takeTurn s.nextTurn (s.turnTaken.useDraws 1) := by
    rw [step_turn hturn, if_neg hrun]
    rcases afterMicrocodeCheck_cases (takeTurn s.nextTurn) s.turnTaken hrun with ⟨good, -⟩ | ⟨-, -, e⟩ | ⟨-, read, -⟩
    · exact absurd (good.symm.trans pending) (by decide)
    · exact e
    · exact absurd (unread.symm.trans read) (by decide)
  have left : McPending (s.turnTaken.useDraws 1) := pending
  exact ⟨turn, turn ▸ leavesPending_takeTurn hturn left⟩

/-- A pending error that is read is reported, and with NS = 0 the machine is shut down before its turn. -/
theorem step_read {s : State} (hrun : s.run ≠ .shutdown) (hturn : s.nextTurn ≠ .agent .reset)
    (pending : s.parity.mcBadPending = true) (read : Config.microcodeRead s.draws = true) :
    step s = if s.parity.bit 1 then takeTurn s.nextTurn (mcReported s.turnTaken)
      else .next (idleClocks (mcReported s.turnTaken)) := by
  rw [step_turn hturn, if_neg hrun]
  rcases afterMicrocodeCheck_cases (takeTurn s.nextTurn) s.turnTaken hrun with
    ⟨good, -⟩ | ⟨-, unread, -⟩ | ⟨-, -, t, ht, e⟩
  · exact absurd (good.symm.trans pending) (by decide)
  · exact absurd (unread.symm.trans read) (by decide)
  · rw [e, ht]
    rfl

/-- Settles O59: the check reads the microcode or does not, and a turn that does not report the error leaves it. -/
theorem microcodeParityError : Obligations.MicrocodeParityError := by
  intro s hrun hturn
  refine ⟨fun good => ?_, fun pending => ?_, fun core u => ?_, fun a rest ha u => ?_⟩
  · exact step_eq_turn hrun hturn good
  · cases read : Config.microcodeRead s.draws with
    | false => exact .inr ⟨rfl, step_unread hrun hturn pending read⟩
    | true =>
      have reported := step_read hrun hturn pending read
      refine .inl ⟨rfl, fun ns => ?_, fun ns => ?_⟩
      · rw [ns] at reported
        have idle := idleClocks_kept (mcReported s.turnTaken)
        exact ⟨_, reported, (idle.2 .run (by decide)).trans (mcReported_shutdown (s := s.turnTaken) ns),
          (idle.2 .parity (by decide)).trans (mcReported_parity _),
          (idle.2 .trace (by decide)).trans (mcReported_trace _),
          ((mcReported_kept _).mono (by decide)).trans (idle.mono (by decide))⟩
      · rw [ns] at reported
        exact ⟨_, reported, mcReported_parity s.turnTaken, mcReported_trace s.turnTaken,
          mcReported_kept_ns (s := s.turnTaken) ns⟩
  · rw [nextTurn_core core]
    refine ⟨fun running => ?_, fun halted => ?_⟩
    · rw [takeTurn, coreTurn, running]
    · rw [takeTurn, coreTurn, halted]
  · rw [(nextTurn_agent ha).1]
    rfl

end Sys2Proof.Machine

/-!
PROOF. The branch trace message of a taken branch (O58).
-/

namespace Sys2Proof.Machine

/-! ### Branch trace messages (rules R303, R306) -/

theorem withTrace_kept (s : State) (x : List Output) : KeptBut [.trace] s (s.withTrace x) :=
  ⟨rfl, fun p hp => by cases p <;> simp_all [Part.kept]⟩

theorem withOccurred_kept (s : State) (x : List Occurrence) : KeptBut [.occurred] s (s.withOccurred x) :=
  ⟨rfl, fun p hp => by cases p <;> simp_all [Part.kept]⟩

/-- TR and FTR decide what joins the trace; that the branch occurred is noted in every case. -/
theorem takenBranchMove_eq (source target : Word) (s : State) :
    takenBranchMove source target s =
      (s.withTrace (if s.tr = false then s.trace
        else if s.ftr then .branchFrom source :: s.trace
        else .branchTo target :: .branchFrom source :: s.trace)).withOccurred (s.occurred ++ [.takenBranch]) := by
  unfold takenBranchMove
  cases s.tr with
  | false => rfl
  | true =>
    cases s.ftr with
    | false => rfl
    | true => rfl

/-- Settles O58: the branch replaces the trace, as TR and FTR say, and the list of occurrences. -/
theorem branchTraceMessages : Obligations.BranchTraceMessages := by
  intro s source target
  exact ⟨_, congrArg Host.Outcome.next (takenBranchMove_eq source target s), rfl,
    ((withTrace_kept s _).mono (by decide)).trans ((withOccurred_kept _ _).mono (by decide))⟩

end Sys2Proof.Machine

/-!
PROOF. RDTSC and RDPMC: the counter in `EDX:EAX` behind the checks of CR4 and of the variant (O13, O14, O15).
-/

namespace Sys2Proof.Machine

/-- A counter in `EDX:EAX`, with no free value used up. -/
def ReadsCounter (s t : State) (n : Nat) : Prop := edxEaxNat t = n ∧ OnlyEdxEax s t ∧ t.draws = s.draws

theorem result_readsCounter (s : State) {v : Quad} {n : Nat} (hv : v.toNat = n) : ReadsCounter s (s.result v) n :=
  ⟨by rw [edxEaxNat_eq, result_edxEax, hv], onlyEdxEax_result s v 0, rfl⟩

/-! ### RDTSC (rules R323, R324) -/

theorem execRdtsc_allowed {s : State} (h : s.core.cr4.getLsbD 2 = false ∨ s.core.cpl = 0) :
    execRdtsc s = .next (s.result s.perf.tsc) :=
  if_neg fun ⟨tsd, user⟩ => h.elim (fun clear => Bool.false_ne_true (clear.symm.trans tsd)) user

theorem execRdtsc_disabled {s : State} (h : s.core.cr4.getLsbD 2 = true ∧ s.core.cpl ≠ 0) :
    FaultsGp s (execRdtsc s) := if_pos h

/-- Settles O13: CR4.TSD and the privilege level decide between the counter and the fault. -/
theorem rdtscResult : Obligations.RdtscResult := fun s =>
  ⟨fun allowed => ⟨_, execRdtsc_allowed allowed, result_readsCounter s rfl⟩, execRdtsc_disabled⟩

/-! ### RDPMC (rules R340 to R342) -/

theorem rdpmcAllowed_p {s : State} (hp : s.cfg.variant = .p) (k : Result) : FaultsUd s (rdpmcAllowed s k) := by
  rw [rdpmcAllowed, hp]
  rfl

section Pmmx
variable {s : State} (hm : s.cfg.variant = .pmmx)
include hm

theorem rdpmcAllowed_enabled (h : s.core.cpl = 0 ∨ s.core.cr4.getLsbD 8 = true) (k : Result) :
    rdpmcAllowed s k = k := by
  rw [rdpmcAllowed, hm]
  exact if_neg fun ⟨user, pce⟩ => h.elim user fun enabled => Bool.false_ne_true (pce.symm.trans enabled)

theorem rdpmcAllowed_disabled (h : s.core.cpl ≠ 0 ∧ s.core.cr4.getLsbD 8 = false) (k : Result) :
    FaultsGp s (rdpmcAllowed s k) := by
  rw [rdpmcAllowed, hm]
  exact if_pos h

/-- A selector that names no counter faults, whatever the checks before it say (rule R342). -/
theorem execRdpmcOther_pmmx (n : Word) : FaultsGp s (execRdpmcOther n s) := by
  rw [execRdpmcOther, rdpmcAllowed, hm]
  exact ite_self _

theorem rdpmcAllowed_reads (h : s.core.cpl = 0 ∨ s.core.cr4.getLsbD 8 = true) (ctr : BitVec 40) :
    ∃ t, rdpmcAllowed s (.next (s.result (ctr.setWidth 64))) = .next t ∧ ReadsCounter s t ctr.toNat :=
  ⟨_, rdpmcAllowed_enabled hm h _, result_readsCounter s (counter_toNat ctr)⟩

end Pmmx

/-- The checks come before the selector (rules R340, R341). -/
theorem execRdpmc_guarded (s : State) : ∃ k, execRdpmc s = rdpmcAllowed s k := by
  unfold execRdpmc
  split_ifs
  · exact ⟨_, rfl⟩
  · exact ⟨_, rfl⟩
  · exact ⟨_, rfl⟩

theorem execRdpmc_ctr0 {s : State} (h : s.core.ecx = 0) : execRdpmc s = execRdpmcCtr0 s := if_pos h

theorem execRdpmc_ctr1 {s : State} (h : s.core.ecx = 1) : execRdpmc s = execRdpmcCtr1 s := by
  rw [execRdpmc_eq_select, h]
  rfl

theorem execRdpmc_other {s : State} (h : 2 ≤ s.core.ecx.toNat) : execRdpmc s = execRdpmcOther s.core.ecx s := by
  rw [execRdpmc_eq_select, selectRdpmc_other h]
  rfl

/-- Settles O14: the counters are read behind the check of CR4.PCE, and any other selector faults with or without it. -/
theorem rdpmcResult : Obligations.RdpmcResult := by
  intro s hm
  refine ⟨fun enabled => ⟨?_, ?_⟩, fun disabled => ?_, execRdpmcOther_pmmx hm, fun other => ?_⟩
  · obtain ⟨t, done, value, only, draws⟩ := rdpmcAllowed_reads hm enabled s.perf.ctr0
    exact ⟨t, done, value, only, draws, fun zero => (execRdpmc_ctr0 zero).trans done⟩
  · obtain ⟨t, done, value, only, draws⟩ := rdpmcAllowed_reads hm enabled s.perf.ctr1
    exact ⟨t, done, value, only, draws, fun one => (execRdpmc_ctr1 one).trans done⟩
  · obtain ⟨k, guarded⟩ := execRdpmc_guarded s
    exact ⟨guarded.trans (rdpmcAllowed_disabled hm disabled k), rdpmcAllowed_disabled hm disabled _,
      rdpmcAllowed_disabled hm disabled _⟩
  · exact (execRdpmc_other other).trans (execRdpmcOther_pmmx hm _)

/-- Settles O15: on `P` every form is behind the check of the variant. -/
theorem rdpmcUndefinedOnP : Obligations.RdpmcUndefinedOnP := by
  intro s ecx hp
  obtain ⟨k, guarded⟩ := execRdpmc_guarded s
  have onP : FaultsUd s (execRdpmcOnP s) := by
    rw [execRdpmcOnP, hp]
    rfl
  exact ⟨onP, guarded.trans (rdpmcAllowed_p hp k), rdpmcAllowed_p hp _, rdpmcAllowed_p hp _, rdpmcAllowed_p hp _⟩

end Sys2Proof.Machine

/-!
PROOF. The pins: the signals of a clock on their way to the PM pins, in a queue of at most `PM_PIN_LAG` clocks, and the
breakpoint matches shown at once (O52).
-/

namespace Sys2Proof.Machine

/-! ### The queue of signals (rule R337) -/

/-- The signals the last clock sends to the PM pins: the increments where PC = 0, the overflows where PC = 1. -/
def sentSignals (env : ClockEnv) (p : Perf) : Bool × Bool :=
  (pinSignal (cesrPc env.cfg p.cesr 0) p.inc0 p.ovf0, pinSignal (cesrPc env.cfg p.cesr 1) p.inc1 p.ovf1)

theorem ticks_cons (env : ClockEnv) (o : Option Occurrence) (l : List (Option Occurrence)) (p : Perf) :
    ticks env (o :: l) p = ticks env l (tick env o p) := rfl

theorem ticks_append (env : ClockEnv) (l m : List (Option Occurrence)) (p : Perf) :
    ticks env (l ++ m) p = ticks env m (ticks env l p) := List.foldl_append

/-- No clock changes CESR (rule R330). -/
theorem ticks_cesr (env : ClockEnv) (l : List (Option Occurrence)) (p : Perf) : (ticks env l p).cesr = p.cesr := by
  induction l generalizing p with
  | nil => rfl
  | cons o l ih => exact ih (tick env o p)

section Tick
variable {env : ClockEnv} {p : Perf} (o : Option Occurrence)

/-- With room in the queue, a clock adds its signals. -/
theorem tick_pipe_filling (room : p.pipe.length < env.cfg.pmPinLag) :
    (tick env o p).pipe = p.pipe ++ [sentSignals env (tick env o p)] := by
  refine if_neg fun late => ?_
  have := of_decide_eq_true late
  simp only [List.length_append, List.length_singleton] at this
  omega

/-- With a full queue, a clock adds its signals and takes out the oldest. -/
theorem tick_pipe_full (full : p.pipe.length = env.cfg.pmPinLag) :
    (tick env o p).pipe = (p.pipe ++ [sentSignals env (tick env o p)]).tail :=
  if_pos (decide_eq_true (by simp [full]))

/-- With a full queue, the oldest signals reach the PM pins. -/
theorem tick_shown_full (full : p.pipe.length = env.cfg.pmPinLag) (pm : env.pins = .performanceMonitoring) :
    p.pipe ++ [sentSignals env (tick env o p)] =
      ((tick env o p).pm0, (tick env o p).pm1) :: (tick env o p).pipe := by
  have shown : ((tick env o p).pm0, (tick env o p).pm1) =
      (p.pipe ++ [sentSignals env (tick env o p)]).headD (false, false) := by
    simp only [tick, pm]
    exact if_pos (decide_eq_true (by simp [full]))
  rw [shown, tick_pipe_full o full]
  cases p.pipe with
  | nil => rfl
  | cons oldest rest => rfl

theorem tick_pipe_length (h : p.pipe.length ≤ env.cfg.pmPinLag) : (tick env o p).pipe.length ≤ env.cfg.pmPinLag := by
  rcases h.lt_or_eq with room | full
  · rw [tick_pipe_filling o room, List.length_append, List.length_singleton]
    exact room
  · rw [tick_pipe_full o full]
    simp [full]

end Tick

theorem ticks_pipe_length {env : ClockEnv} (l : List (Option Occurrence)) {p : Perf}
    (h : p.pipe.length ≤ env.cfg.pmPinLag) : (ticks env l p).pipe.length ≤ env.cfg.pmPinLag := by
  induction l generalizing p with
  | nil => exact h
  | cons o l ih => exact ih (tick_pipe_length o h)

/-- Signals in the queue reach the PM pins when the clocks after theirs are `PM_PIN_LAG`: those behind them in the queue
and those still to come. -/
theorem ticks_shows_queued {env : ClockEnv} (pm : env.pins = .performanceMonitoring) (o : Option Occurrence)
    (l : List (Option Occurrence)) {p : Perf} {older newer : List (Bool × Bool)} {x : Bool × Bool}
    (h : p.pipe.length ≤ env.cfg.pmPinLag)
    (queue : p.pipe ++ [sentSignals env (tick env o p)] = older ++ x :: newer)
    (lag : newer.length + l.length = env.cfg.pmPinLag) :
    ((ticks env (o :: l) p).pm0, (ticks env (o :: l) p).pm1) = x := by
  have count := congrArg List.length queue
  simp only [List.length_append, List.length_cons, List.length_nil] at count
  induction l generalizing p o older newer with
  | nil =>
    simp only [List.length_nil] at lag
    have first : older = [] := List.eq_nil_of_length_eq_zero (by omega)
    rw [tick_shown_full o (by omega) pm, first] at queue
    exact (List.cons.inj queue).1
  | cons o' l ih =>
    simp only [List.length_cons] at lag
    obtain ⟨older', left⟩ : ∃ older', (tick env o p).pipe = older' ++ x :: newer := by
      rcases h.lt_or_eq with room | full
      · exact ⟨older, (tick_pipe_filling o room).trans queue⟩
      · rw [tick_shown_full o full pm] at queue
        cases older with
        | nil =>
          simp only [List.length_nil] at count
          omega
        | cons a older' => exact ⟨older', (List.cons.inj queue).2⟩
    refine ih o' (older := older') (newer := newer ++ [sentSignals env (tick env o' (tick env o p))])
      (tick_pipe_length o h) (by rw [left]; simp) ?_ ?_
    · rw [List.length_append, List.length_singleton]
      omega
    · rw [left]
      simp only [List.length_append, List.length_cons, List.length_nil]
      omega

/-- The PM pins show the signals of a clock `PM_PIN_LAG` clocks after it (rule R337). -/
theorem ticks_shows_sent {env : ClockEnv} {known : List (Option Occurrence)} {n : Nat} {p : Perf}
    (pm : env.pins = .performanceMonitoring) (h : p.pipe.length ≤ env.cfg.pmPinLag)
    (enough : n + env.cfg.pmPinLag + 1 ≤ known.length) :
    ((ticks env (known.take (n + env.cfg.pmPinLag + 1)) p).pm0,
      (ticks env (known.take (n + env.cfg.pmPinLag + 1)) p).pm1) =
      sentSignals env (ticks env (known.take (n + 1)) p) := by
  cases rest : known.drop n with
  | nil =>
    have := List.drop_eq_nil_iff.mp rest
    omega
  | cons o l =>
    have count := congrArg List.length rest
    rw [List.length_drop, List.length_cons] at count
    have after (m : Nat) : known.take (n + m + 1) = known.take n ++ o :: l.take m := by
      rw [Nat.add_assoc, List.take_add, rest, List.take_succ_cons]
    rw [after env.cfg.pmPinLag, show known.take (n + 1) = _ from after 0, ticks_append, ticks_append]
    refine ticks_shows_queued pm o (l.take env.cfg.pmPinLag) (ticks_pipe_length _ h) (newer := []) rfl ?_
    rw [List.length_nil, Nat.zero_add, List.length_take_of_le (by omega)]

/-! ### Breakpoint matches (rules R338, R397 to R400) -/

/-- Codes 35 to 38 name an event on both counters of both variants (rule R360). -/
theorem eventOf_breakpoint (v : Variant) (k : Fin 4) (i : Fin 2) : (eventOf v (35 + k.val) i).isSome = true := by
  revert k i
  cases v <;> decide

/-- Events 35 to 38 count the matches of DR0 to DR3 (rules R397 to R400). -/
theorem eventCount_breakpoint (env : ClockEnv) (known : Option Occurrence) (clock : Nat) (i : Fin 2) {r : EventRow}
    (k : Fin 4) (h : r.code = 35 + k.val) : eventCount env known clock i r = breakpointMatches env clock k := by
  fin_cases k <;> simp [eventCount, oracleCount, h]

/-- A counter of the matches of a breakpoint register has the increment of a match (rules R335, R338). -/
theorem tick_inc_breakpoint {env : ClockEnv} {p : Perf} (o : Option Occurrence) {i : Fin 2} {k : Fin 4}
    (on : counterEnabled (cesrCc env.cfg p.cesr i) env.cpl = true)
    (events : (cesrCc env.cfg p.cesr i).getLsbD 2 = false) (es : cesrEs env.cfg p.cesr i = 35 + k.val) :
    decide (0 < breakpointMatches env p.clock k) = if i = 0 then (tick env o p).inc0 else (tick env o p).inc1 := by
  obtain ⟨r, event⟩ := Option.isSome_iff_exists.mp (eventOf_breakpoint env.cfg.variant k i)
  have counter (ctr : BitVec 40) := tickCounter_event o ctr on events (es ▸ event)
  rw [eventCount_breakpoint env o p.clock i k (eventOf_code event)] at counter
  have number : i = 0 ∨ i = 1 := by omega
  rcases number with rfl | rfl
  · exact (congrArg (·.2.1) (counter p.ctr0)).symm
  · exact (congrArg (·.2.1) (counter p.ctr1)).symm

/-- The PM pins in their breakpoint function show the matches of DR0 and DR1 (rule R338). -/
theorem tick_breakpointPins {env : ClockEnv} (o : Option Occurrence) (p : Perf) (h : env.pins = .breakpoint) :
    (tick env o p).pm0 = decide (0 < breakpointMatches env p.clock 0) ∧
      (tick env o p).pm1 = decide (0 < breakpointMatches env p.clock 1) := by
  simp only [tick, h, and_self]

/-- Settles O52: the queue delivers a clock's signals `PM_PIN_LAG` clocks later, and a counter of breakpoint matches
goes up in the clock that shows the match. -/
theorem pinsLagCounters : Obligations.PinsLagCounters := by
  refine ⟨rfl, fun env p bounded => ⟨fun o => tick_pipe_length o bounded, fun known n pm enough => ?_,
    fun o i on events => ?_⟩⟩
  · have sent := ticks_shows_sent pm bounded enough
    rw [sentSignals, ticks_cesr] at sent
    exact Prod.mk.inj sent
  · have shows (k : Fin 4) := tick_inc_breakpoint o (k := k) on events
    exact ⟨shows 3, shows 2, fun breakpoint es => (tick_breakpointPins o p breakpoint).2.trans (shows 1 es),
      fun breakpoint es => (tick_breakpointPins o p breakpoint).1.trans (shows 0 es)⟩

end Sys2Proof.Machine

/-!
PROOF. Two RDTSC in a row: the clocks of a step before and after its effect, one step of RDTSC, and the second step on
the state the first leaves (O6).
-/

namespace Sys2Proof.Machine

/-! ### Clocks passed (rule R322) -/

/-- From one state of the counters to another `k` clocks pass. -/
structure ClocksPass (k : Nat) (p q : Perf) : Prop where
  clock : q.clock = p.clock + k
  tsc : q.tsc.toNat = (p.tsc.toNat + k) % 2 ^ 64

theorem ClocksPass.trans {j k : Nat} {p q r : Perf} (h : ClocksPass j p q) (h' : ClocksPass k q r) :
    ClocksPass (j + k) p r := by
  refine ⟨by rw [h'.clock, h.clock, Nat.add_assoc], ?_⟩
  rw [h'.tsc, h.tsc]
  omega

theorem ticks_clock (env : ClockEnv) (l : List (Option Occurrence)) (p : Perf) :
    (ticks env l p).clock = p.clock + l.length := by
  induction l generalizing p with
  | nil => rfl
  | cons o l ih =>
    have clock : (tick env o p).clock = p.clock + 1 := rfl
    rw [ticks_cons, ih, clock, List.length_cons]
    omega

theorem ticks_clocksPass (env : ClockEnv) (l : List (Option Occurrence)) (p : Perf) :
    ClocksPass l.length p (ticks env l p) := by
  refine ⟨ticks_clock env l p, ?_⟩
  rw [ticks_tsc, BitVec.toNat_add, BitVec.toNat_ofNat, Nat.add_mod_mod]

/-- At least one clock passes before the effect of an instruction (rule R325; log 7). -/
theorem beforeInstruction_clocksPass (s : State) : ∃ k, 1 ≤ k ∧ ClocksPass k s.perf (beforeInstruction s).perf := by
  refine ⟨_, ?_, ticks_clocksPass (clockEnv s) _ s.perf⟩
  rw [List.length_append, List.length_map, List.length_replicate]
  cases Config.retiresBefore s.draws
  · exact Nat.le_add_left 1 _
  · exact Nat.le_add_right 1 _

theorem afterInstruction_clocksPass (d : Nat) (s : State) : ∃ k, ClocksPass k s.perf (afterInstruction d s).perf :=
  ⟨_, ticks_clocksPass _ _ s.perf⟩

/-! ### The fetch of RDTSC -/

/-- A longer fetch begins with the bytes of a shorter one. -/
theorem fetchBytes_begins (code : Memory) (a n m : Nat) :
    ∃ rest, fetchBytes code a (n + m) = fetchBytes code a n ++ rest := by
  induction n generalizing a with
  | zero => exact ⟨_, rfl⟩
  | succ n ih =>
    rw [Nat.succ_add, fetchBytes, fetchBytes]
    split
    · obtain ⟨rest, later⟩ := ih (a + 1)
      exact ⟨rest, by rw [later]; rfl⟩
    · exact ⟨[], rfl⟩

theorem decodeAt_rdtsc {s : State} (h : fetchBytes s.code s.core.eip.toNat 2 = [0x0F, 0x31]) :
    decodeAt s = .ok .rdtsc := by
  obtain ⟨rest, bytes⟩ := fetchBytes_begins s.code s.core.eip.toNat 2 3
  rw [decodeAt, bytes, h]
  rfl

/-- Whether a fetch is quiet is seen in the caches (rule R110). -/
theorem QuietFetch.congr {s t : State} {a : Word} (h : QuietFetch s a) (cfg : t.cfg = s.cfg)
    (caches : t.caches = s.caches) : QuietFetch t a := by
  have code : codeHits a t = codeHits a s := by rw [codeHits, codeHits, cfg, caches]
  have data : dataHits a t = dataHits a s := by rw [dataHits, dataHits, cfg, caches]
  rw [QuietFetch, code, data, caches]
  exact h

/-! ### One step of RDTSC -/

/-- RDTSC is the next instruction and nothing stands in its way: its fetch is quiet, no microcode error is pending, and
neither CR4.TSD nor paging is on. -/
structure RdtscNext (s : State) : Prop where
  running : s.run = .running
  turn : CoreTurn s
  mc : s.parity.mcBadPending = false
  tsd : s.core.cr4.getLsbD 2 = false
  pg : s.core.cr0.getLsbD 31 = false
  bytes : fetchBytes s.code s.core.eip.toNat 2 = [0x0F, 0x31]
  quiet : ∀ n, n < 2 → QuietFetch s (s.core.eip + BitVec.ofNat 32 n)

/-- The fetch is quiet and the counter is read after the clocks before the effect (rules R110, R323). -/
theorem RdtscNext.step_eq {s : State} (h : RdtscNext s) :
    ∃ m, step s = .next (afterInstruction (s.turnTaken.useDraws m).draws
      ((beforeInstruction (s.turnTaken.useDraws m)).result (beforeInstruction (s.turnTaken.useDraws m)).perf.tsc)) := by
  have quiet : ∀ a ∈ [s.core.eip, s.core.eip + BitVec.ofNat 32 (instrLength .rdtsc - 1)], QuietFetch s a := by
    have first := h.quiet 0 (by decide)
    rw [BitVec.add_zero] at first
    exact List.forall_mem_cons.mpr ⟨first, List.forall_mem_singleton.mpr (h.quiet 1 (by decide))⟩
  have running : s.turnTaken.run ≠ .shutdown := by
    rw [show s.turnTaken.run = .running from h.running]
    nofun
  obtain ⟨m, fetched⟩ := fetched_quiet (s := s.turnTaken) (executeInstruction .rdtsc) running h.pg quiet
  refine ⟨m, ?_⟩
  rw [step_coreTurn h.running h.turn h.mc, runInstruction_ok (s := s.turnTaken) (decodeAt_rdtsc h.bytes), fetched]
  exact (executeInstruction_of_exec _ _).1 _ (execRdtsc_allowed (.inl h.tsd))

/-- What a step of RDTSC does: `j` clocks, at least one, before the effect, which reads the counter as they leave it,
and `k` clocks after it (rules R322, R323, R325). -/
structure RdtscStep (s t : State) (j k : Nat) : Prop where
  pos : 1 ≤ j
  clocks : ClocksPass (j + k) s.perf t.perf
  value : edxEaxNat t = (s.perf.tsc.toNat + j) % 2 ^ 64
  core : CoreKeptBut [.eax, .edx, .eip] s t
  eip : EipPast 2 s t
  kept : KeptBut [.core, .perf, .occurred, .draws] s.turnTaken t

theorem rdtscStep_of_before {s b : State} {j : Nat} (pos : 1 ≤ j) (before : ClocksPass j s.perf b.perf)
    (kept : KeptBut [.perf, .draws] s.turnTaken b) (d : Nat) :
    ∃ k, RdtscStep s (afterInstruction d (b.result b.perf.tsc)) j k := by
  obtain ⟨value, ⟨core, result, eip⟩, -⟩ := result_readsCounter b before.tsc
  obtain ⟨k, after⟩ := afterInstruction_clocksPass d (b.result b.perf.tsc)
  have same : b.core = s.core := kept.2 .core (by decide)
  rw [EipPast, same] at eip
  rw [CoreKeptBut, same] at core
  exact ⟨k, pos, before.trans after, value, core, eip, (kept.mono (by decide)).trans
    ((result.mono (by decide)).trans ((afterInstruction_kept d _).mono (by decide)))⟩

theorem RdtscNext.completes {s : State} (h : RdtscNext s) : ∃ t j k, step s = .next t ∧ RdtscStep s t j k := by
  obtain ⟨m, done⟩ := h.step_eq
  obtain ⟨j, pos, before⟩ := beforeInstruction_clocksPass (s.turnTaken.useDraws m)
  have used : KeptBut [.perf, .draws] s.turnTaken (s.turnTaken.useDraws m) :=
    ⟨rfl, fun p hp => by cases p <;> simp_all [Part.kept]⟩
  obtain ⟨k, rdtsc⟩ := rdtscStep_of_before (s := s) pos before (used.trans (beforeInstruction_kept _)) _
  exact ⟨_, j, k, done, rdtsc⟩

/-- After a step of RDTSC, another one whose bytes follow is next. -/
theorem RdtscStep.next {s t : State} {j k : Nat} (h : RdtscStep s t j k) (first : RdtscNext s) (done : step s = .next t)
    (turn : CoreTurn s.turnTaken) (room : s.core.eip.toNat + 2 < 2 ^ 32)
    (bytes : fetchBytes s.code (s.core.eip.toNat + 2) 2 = [0x0F, 0x31])
    (quiet : ∀ n, n < 2 → QuietFetch s (s.core.eip + BitVec.ofNat 32 (2 + n))) : RdtscNext t where
  running := (h.kept.2 .run (by decide)).trans first.running
  turn := by
    rw [CoreTurn, show t.agenda = s.turnTaken.agenda from h.kept.2 .agenda (by decide)]
    exact turn
  mc := by
    rw [show t.parity = s.turnTaken.parity from h.kept.2 .parity (by decide)]
    exact first.mc
  tsd := by
    rw [show t.core.cr4 = s.core.cr4 from h.core .cr4 (by decide)]
    exact first.tsd
  pg := by
    rw [show t.core.cr0 = s.core.cr0 from h.core .cr0 (by decide)]
    exact first.pg
  bytes := by
    rw [h.eip room, (stepKeepsConfigAndCode s t done).2.1]
    exact bytes
  quiet := by
    intro n lt
    have address : t.core.eip + BitVec.ofNat 32 n = s.core.eip + BitVec.ofNat 32 (2 + n) := by
      have past := h.eip room
      apply BitVec.eq_of_toNat_eq
      simp only [BitVec.toNat_add, BitVec.toNat_ofNat, past]
      omega
    rw [address]
    exact (quiet n lt).congr h.kept.1 (h.kept.2 .caches (by decide))

/-- Settles O6: each value is the counter after the clocks before its effect, and the clocks after the first effect lie
between the two. -/
theorem timeStampCounterGrows : Obligations.TimeStampCounterGrows := by
  intro s running turn next mc tsd pg room bytes bytes' quiet
  have first : RdtscNext s := ⟨running, turn, mc, tsd, pg, bytes, fun n lt => quiet n (by omega)⟩
  obtain ⟨t, j, k, done, rdtsc⟩ := first.completes
  have second := rdtsc.next first done next (by omega) bytes' fun n lt => quiet (2 + n) (by omega)
  obtain ⟨u, j', k', done', rdtsc'⟩ := second.completes
  have clock := rdtsc.clocks.clock
  have clock' := rdtsc'.clocks.clock
  have pos := rdtsc.pos
  have pos' := rdtsc'.pos
  refine ⟨t, u, s.perf.clock + j, t.perf.clock + j', done, done', by omega, by omega, by omega, by omega, ?_, ?_⟩
  · rw [rdtsc.value, Nat.add_sub_cancel_left]
  · rw [rdtsc'.value, rdtsc.clocks.tsc, rdtsc.value]
    omega

end Sys2Proof.Machine

/-!
PROOF. Shutdown, the HALT state and the turns of the other agents (O5).
-/

namespace Sys2Proof.Machine

/-! ### Whose turn it is (rule R14) -/

theorem nextTurn_ne_reset {s : State} {a : Agent} {rest : List Turn} (h : s.agenda = .agent a :: rest)
    (other : a ≠ .reset) : s.nextTurn ≠ .agent .reset := by
  rw [(nextTurn_agent h).1]
  exact fun e => other (Turn.agent.inj e)

/-! ### Shutdown (rule R470) -/

theorem step_shutdown {s : State} (shut : s.run = .shutdown) (turn : s.nextTurn ≠ .agent .reset) :
    step s = .fault .shutdown := by
  rw [step_turn turn, if_pos shut]

/-- RESET runs the machine again, whatever the state (rules R80, R470). -/
theorem step_reset_runs {s : State} {rest : List Turn} (h : s.agenda = .agent .reset :: rest) :
    ∃ t, step s = .next t ∧ t.run = .running ∧ t.agenda = rest := by
  obtain ⟨turn, taken⟩ := nextTurn_agent h
  refine ⟨_, step_reset turn, rfl, ?_⟩
  rw [taken]
  rfl

/-! ### The HALT state (rules R322, R477) -/

/-- At least one clock passes while the core idles (rule R325; log 7). -/
theorem idleClocks_clocksPass (s : State) : ∃ k, 1 ≤ k ∧ ClocksPass k s.perf (idleClocks s).perf := by
  refine ⟨_, ?_, ticks_clocksPass (clockEnv s) _ s.perf⟩
  rw [List.length_append, List.length_replicate]
  omega

theorem step_halted {s : State} (halted : s.run = .halted) (turn : CoreTurn s)
    (mc : s.parity.mcBadPending = false) : step s = .next (idleClocks s.turnTaken) := by
  have core := nextTurn_core turn
  have same : s.turnTaken.run = .halted := halted
  rw [step_eq_turn (by rw [halted]; nofun) (by rw [core]; nofun) mc, core, takeTurn, coreTurn, same]

/-! ### The turn of another agent (log 17) -/

/-- With no microcode error pending it is the agent's move, RESET or not. -/
theorem step_agentTurn {s : State} {a : Agent} {rest : List Turn} (run : s.run ≠ .shutdown)
    (mc : s.parity.mcBadPending = false) (h : s.agenda = .agent a :: rest) :
    step s = drained 0 (agentMove a (s.withAgenda rest)) := by
  obtain ⟨turn, taken⟩ := nextTurn_agent h
  rw [← taken]
  by_cases reset : a = .reset
  · subst reset
    exact step_reset turn
  · rw [step_eq_turn run (nextTurn_ne_reset h reset) mc, turn, takeTurn]

/-- Settles O5: in shutdown only RESET has a meaning; else, without a pending microcode error, the step is its turn,
which in the HALT state is idle for the core and the move for another agent. -/
theorem shutdownAndHaltSteps : Obligations.ShutdownAndHaltSteps := by
  intro s
  refine ⟨fun shut core => ?_, fun shut a rest ha other => ?_, fun rest ha => step_reset_runs ha,
    fun halted core mc => ?_, fun run mc a rest ha => step_agentTurn run mc ha⟩
  · exact step_shutdown shut (by rw [nextTurn_core core]; nofun)
  · exact step_shutdown shut (nextTurn_ne_reset ha other)
  · obtain ⟨k, pos, clocks⟩ := idleClocks_clocksPass s.turnTaken
    exact ⟨_, k, step_halted halted core mc, pos, clocks.clock, clocks.tsc,
      (idleClocks_kept s.turnTaken).mono (by decide)⟩

end Sys2Proof.Machine
